-- ==== Sys2Proof/Word.lean ====
section
/-! DEFINITION. The words of the block and the enumerations its registers hold
(00_scope.md R5, R6; 30_encoding.md R60 to R62). All quantities are unsigned; every addition and
subtraction on a `BitVec` wraps modulo two to its width, which is R6. -/

namespace Sys2Proof

/-- A Tick: "unsigned 32-bit count of hardware timer ticks" (R5 `TICK_W`). -/
abbrev Tick := BitVec 32

/-- The duration of an Interval, in ticks (R63). -/
abbrev Duration := BitVec 32

/-- A pin level: `true` is 1 (high), `false` is 0 (low). -/
abbrev Level := Bool

/-- Mode (R60). -/
inductive Mode where
  | space
  | pulse
deriving DecidableEq, Repr

/-- Activity state (R23, R61): three values, so that the unused code `0b11` cannot be written
(93_implementation_defined.md U2). -/
inductive Activity where
  | inactive
  | waiting
  | active
deriving DecidableEq, Repr

/-- DecoderState (R26, R62): four values, no code for an "invalid/dead state". -/
inductive DecoderState where
  | idle
  | header
  | bypass
  | passthrough
deriving DecidableEq, Repr

/-- The named causes for which a frame is abandoned (60_exceptions.md R180, entries (a) and (b)).
No cause is stored anywhere (R144). -/
inductive ErrorCause where
  | tolerance
  | parity
deriving DecidableEq, Repr

/-- The four interrupt sources (60_exceptions.md R183), and no other. -/
inductive IrqSource where
  | pinChange
  | settleCompare
  | confirmCompare
  | overflow
deriving DecidableEq, Repr

end Sys2Proof
end

