-- ==== Sys2Proof/Syntax.lean ====
section
/-! DEFINITION. The operations of the block, one constructor per row of spec/opcode_table.json, and
the words a stimulus is made of (30_encoding.md R63, R64, R70, R72). -/

namespace Sys2Proof

/-- The operation set (00_scope.md R1, 30_encoding.md R70 and R72): the 16 operations of the event
word, then the 14 decoder rules an Interval word selects. A decoder rule whose table row fixes the
mode bit carries the duration alone. -/
inductive Instr where
  /-- `CLK.TICK` (R90). -/
  | clkTick
  /-- `DEB.EDGE` (R103): the new level of `rf_in`. -/
  | debEdge (lvl : Level)
  /-- `DEB.SETTLE` (R104). -/
  | debSettle
  /-- `DEB.CONFIRM` (R105): the level of `rf_in` now. -/
  | debConfirm (lvl : Level)
  /-- `CLK.OVF` (R91). -/
  | clkOvf
  /-- `CLK.NOW` (R93). -/
  | clkNow
  /-- `SMP.POLL` (R117). -/
  | smpPoll
  /-- `DEC.STEP` (R125) on the Interval `{m, d}`. -/
  | decStep (m : Mode) (d : Duration)
  /-- `OUT.AUTH` (R160). -/
  | outAuth
  /-- `OUT.DRIVE` (R161). -/
  | outDrive
  /-- `TOP.CYCLE` (R170): `rf_in` sampled this tick. -/
  | topCycle (lvl : Level)
  /-- `SYS.RESET` (R210): `rf_in` at reset and the fields of the CFG word. -/
  | sysReset (lvl : Level) (mask : BitVec 7) (id : BitVec 8)
  /-- `SYS.CFGLOAD` (R195): the fields of the CFG word. -/
  | sysCfgload (mask : BitVec 7) (id : BitVec 8)
  /-- `SYS.CLI` (R194). -/
  | sysCli
  /-- `SYS.RESTORE` (R194): the saved `ie`. -/
  | sysRestore (saved : Bool)
  /-- `SYS.DIAG` (R199): refused. -/
  | sysDiag (value : BitVec 32)
  /-- `DEC.GAP` (R126), a SPACE. -/
  | decGap (d : Duration)
  /-- `DEC.IDLE.LEAD` (R127), a PULSE. -/
  | decIdleLead (d : Duration)
  /-- `DEC.IDLE.NOP` (R128). -/
  | decIdleNop (m : Mode) (d : Duration)
  /-- `DEC.HDR.COUNT` (R129). -/
  | decHdrCount (m : Mode) (d : Duration)
  /-- `DEC.HDR.PARITY` (R130). -/
  | decHdrParity (m : Mode) (d : Duration)
  /-- `DEC.HDR.SYNC` (R133). -/
  | decHdrSync (m : Mode) (d : Duration)
  /-- `DEC.HDR.BITP` (R134), a PULSE. -/
  | decHdrBitp (d : Duration)
  /-- `DEC.HDR.RESYNC` (R135), a PULSE. -/
  | decHdrResync (d : Duration)
  /-- `DEC.HDR.BIT0` (R136), a SPACE. -/
  | decHdrBit0 (d : Duration)
  /-- `DEC.HDR.BIT1` (R137), a SPACE. -/
  | decHdrBit1 (d : Duration)
  /-- `DEC.HDR.BADBIT` (R138), a SPACE. -/
  | decHdrBadbit (d : Duration)
  /-- `DEC.HDR.DONE` (R140), a PULSE. -/
  | decHdrDone (d : Duration)
  /-- `DEC.BYPASS` (R142). -/
  | decBypass (m : Mode) (d : Duration)
  /-- `DEC.PASS` (R143). -/
  | decPass (m : Mode) (d : Duration)
deriving DecidableEq, Repr

/-- One word of a stimulus, in whole bytes (log 9): an event word with its operand word, or an
Interval word delivered to the decoder alone. -/
inductive Stim where
  /-- Format EV (R70): the word `{op[3:0], lvl}` in bits 4:0 of `ev`; the operand word of the
  operation (IV, CFG, 1 bit or 32 bits) in the low bits of `operand`. -/
  | event (ev : BitVec 8) (operand : BitVec 40)
  /-- Format IV (R63): `{mode, duration[31:0]}` in bits 32:0 of `iv`. -/
  | interval (iv : BitVec 40)
deriving DecidableEq, Repr

/-- Why a stimulus word is no word of the formats. -/
inductive StimError where
  /-- Bits 7:5 of the event byte are not 0. -/
  | eventPadding
  /-- The operand has a bit outside the operand format of the operation. -/
  | operandPadding
  /-- Bits 39:33 of the Interval word are not 0. -/
  | intervalPadding
deriving DecidableEq, Repr

end Sys2Proof
end

