-- ==== Sys2Proof/Machine/Operands.lean ====
section
/-! DEFINITION. The numeric encodings and word formats: Mode, Activity and DecoderState codes (R60
to R62), the IV, CFG and EV words (R63, R64, R70), the Tick's parts (R68) and the accumulator's
shift (R7). -/

namespace Sys2Proof.Machine

/-- R60: `SPACE = 0`, `PULSE = 1`. -/
def modeBit : Mode → Bool
  | .space => false
  | .pulse => true

/-- R60, read back. -/
def modeOfBit (b : Bool) : Mode := if b then .pulse else .space

/-- R61: bit 0 is the "waiting to confirm" flag, bit 1 the "confirmed active" flag. -/
def activityCode : Activity → BitVec 2
  | .inactive => 0b00
  | .waiting => 0b01
  | .active => 0b10

/-- R61, read back: the code `0b11` is unused. -/
def activityOfCode (c : BitVec 2) : Option Activity :=
  if c = 0b00 then some .inactive
  else if c = 0b01 then some .waiting
  else if c = 0b10 then some .active
  else none

/-- R62: the codes 0 to 3 in the order IDLE, HEADER, BYPASS, PASSTHROUGH. -/
def decoderStateCode : DecoderState → BitVec 2
  | .idle => 0
  | .header => 1
  | .bypass => 2
  | .passthrough => 3

/-- R62, read back: all four codes are legal. -/
def decoderStateOfCode (c : BitVec 2) : DecoderState :=
  if c = 0 then .idle
  else if c = 1 then .header
  else if c = 2 then .bypass
  else .passthrough

/-- R63: the Interval word `{mode, duration[31:0]}`. -/
def intervalWord (m : Mode) (d : Duration) : BitVec 33 := BitVec.ofBool (modeBit m) ++ d

/-- R63: bit 32. -/
def intervalMode (w : BitVec 33) : Mode := modeOfBit (w.getLsbD 32)

/-- R63: bits 31:0. -/
def intervalDuration (w : BitVec 33) : Duration := w.extractLsb' 0 32

/-- R64: the configuration word `{cfg_mask[6:0], cfg_id[7:0]}`. -/
def cfgWord (mask : BitVec 7) (id : BitVec 8) : BitVec 15 := mask ++ id

/-- R64: bits 14:8. -/
def cfgWordMask (w : BitVec 15) : BitVec 7 := w.extractLsb' 8 7

/-- R64: bits 7:0. -/
def cfgWordId (w : BitVec 15) : BitVec 8 := w.extractLsb' 0 8

/-- R70: the event word `{op[3:0], lvl}`, in a byte whose upper three bits are 0. -/
def eventByte (op : BitVec 4) (lvl : Level) : BitVec 8 :=
  (0 : BitVec 3) ++ op ++ BitVec.ofBool lvl

/-- R70: bits 4:1. -/
def eventOp (ev : BitVec 8) : BitVec 4 := ev.extractLsb' 1 4

/-- R70: bit 0. -/
def eventLevel (ev : BitVec 8) : Level := ev.getLsbD 0

/-- R68, R18: `{ovf_count +_24 ovf_flag, cnt8}`. -/
def tickOfParts (ovfCount : BitVec 24) (ovfFlag : Bool) (cnt8 : BitVec 8) : Tick :=
  (ovfCount + (if ovfFlag then 1 else 0)) ++ cnt8

/-- R7, `shl1_16`: the left shift that discards the bit shifted out. -/
def shl1 (a : BitVec 16) : BitVec 16 := a <<< 1

/-- R67: shift in one decoded bit, most significant first. -/
def shiftIn (a : BitVec 16) (b : Bool) : BitVec 16 := shl1 a ||| (if b then 1 else 0)

/-- R76, `ADDR(chan, id)`: the 11-bit address word `chan * 16 + id`. -/
def addressOf (chan : BitVec 7) (id : BitVec 4) : BitVec 11 := chan ++ id

end Sys2Proof.Machine
end

