-- ==== Sys2Proof/Config.lean ====
section
/-! DEFINITION. What an implementation fixes: the parameters of 00_scope.md R3 and the treatment of
reserved device ids. The values, and the constraints of R4, are in Machine/Parameters.lean. The spec
leaves no value undefined after an operation, so there is no free value here. -/

namespace Sys2Proof

/-- What becomes of a configuration whose device id is 16 to 253.
The spec gives two treatments and asks a model to take one (DESIGN CHOICE, log 5). -/
inductive ReservedIdTreatment where
  /-- R195, R73 (a) first sentence, U1: loading such a configuration is refused. -/
  | refuse
  /-- R73 (a), "a model that must be total": the id is loaded and the block never forwards. -/
  | load
deriving DecidableEq, Repr

/-- The parameters the model takes as an argument (R3), in ticks. No operation writes them. -/
structure Params where
  /-- `OUTDELAY`, the length of the debounce window. -/
  outDelay : Nat
  /-- `T_LEAD`, the lead pulse. -/
  tLead : Nat
  /-- `T_SYNC`, the second stage, positions 1 to 3. -/
  tSync : Nat
  /-- `T_BITP`, the bit pulse. -/
  tBitp : Nat
  /-- `T_ZERO`, the SPACE of a 0 bit. -/
  tZero : Nat
  /-- `T_ONE`, the SPACE of a 1 bit. -/
  tOne : Nat
  /-- `T_GAP`, the inter-frame gap threshold. -/
  tGap : Nat
  /-- What loading a reserved device id does (R73 (a), R195). -/
  reservedIds : ReservedIdTreatment
deriving DecidableEq, Repr

end Sys2Proof
end

