-- ==== Sys2Proof/Machine/Parameters.lean ====
section
/-! DEFINITION. The parameter values and their constraints (00_scope.md R3, R4, R5). -/

namespace Sys2Proof.Machine

/-- R3: a duration of `us` microseconds in ticks at `TICKS_PER_US = num / den`, where that is a
positive integer. -/
def ticksOf (num den us : Nat) : Option Nat :=
  if 0 < den ∧ us * num % den = 0 ∧ 0 < us * num / den then some (us * num / den) else none

/-- R3: the parameter set at the tick rate `TICKS_PER_US = num / den`, with the source's durations
(50, 5000, 500, 250, 250, 500 and 200000 microseconds), where every constant is a positive
integer. -/
def paramsAtRate (num den : Nat) (reservedIds : ReservedIdTreatment) : Option Params := do
  let outDelay ← ticksOf num den 50
  let tLead ← ticksOf num den 5000
  let tSync ← ticksOf num den 500
  let tBitp ← ticksOf num den 250
  let tZero ← ticksOf num den 250
  let tOne ← ticksOf num den 500
  let tGap ← ticksOf num den 200000
  return { outDelay, tLead, tSync, tBitp, tZero, tOne, tGap, reservedIds }

/-- The reference configuration of R3 (`TICKS_PER_US = 1`), with the total treatment of reserved ids
(log 4, log 5). -/
def referenceParams : Params where
  outDelay := 50
  tLead := 5000
  tSync := 500
  tBitp := 250
  tZero := 250
  tOne := 500
  tGap := 200000
  reservedIds := .load

/-- R3 (every constant a positive integer) and R4 (a) to (d). A parameter set that breaks them is
rejected (93_implementation_defined.md U11). -/
def paramsLegal (P : Params) : Bool :=
  decide (0 < P.tLead ∧ 0 < P.tSync ∧ 0 < P.tBitp ∧ 0 < P.tZero ∧ 0 < P.tOne ∧ 0 < P.tGap) &&
  decide (1 ≤ P.outDelay ∧ P.outDelay ≤ 255) &&
  decide (6 * P.tZero < 4 * P.tOne) &&
  decide (P.tGap < 2 ^ 32 ∧ 6 * P.tLead ≤ 5 * (2 ^ 32 - 1)) &&
  decide (6 * P.tOne < 5 * P.tGap)

/-- R5 `HDR_TOTAL`: the position of the last Interval of a header. -/
def hdrTotal : BitVec 8 := 70

/-- R5 `RESYNC`: the positions at which a copy of the address starts. -/
def resyncPositions : List (BitVec 8) := [4, 26, 48]

/-- R5 `CFG_ID` default. -/
def defaultCfgId : BitVec 8 := 6

/-- R5 `CFG_MASK` default. -/
def defaultCfgMask : BitVec 7 := 0b1111111

end Sys2Proof.Machine
end

