-- ==== Sys2Proof/Machine/Flags.lean ====
section
/-! DEFINITION. Every predicate and verdict the block computes: the interval classifier, the gap
test, `mode_of`, the mode a position requires, the forwarding flag and the header verdict. The block
has no condition codes (10_state.md R25). -/

namespace Sys2Proof.Machine

/-- R131, `in_range(d, N)`: `4 * N <= 5 * d` and `5 * d <= 6 * N` on mathematical integers. -/
def inRange (d : Duration) (N : Nat) : Bool :=
  decide (4 * N ≤ 5 * d.toNat) && decide (5 * d.toNat ≤ 6 * N)

/-- R126: the one-sided, strict gap test on the duration of a SPACE. -/
def isGap (P : Params) (d : Duration) : Bool :=
  decide (P.tGap < d.toNat)

/-- R126, selection of `DEC.GAP`: a SPACE longer than `T_GAP`. -/
def isGapInterval (P : Params) (m : Mode) (d : Duration) : Bool :=
  decide (m = .space) && isGap P d

/-- R127, selection of `DEC.IDLE.LEAD` by mode and duration. -/
def isLeadInterval (P : Params) (m : Mode) (d : Duration) : Bool :=
  decide (m = .pulse) && inRange d P.tLead

/-- R116: the Mode the main loop reads from the activity state. -/
def modeOf : Activity → Mode
  | .active => .pulse
  | .waiting => .space
  | .inactive => .space

/-- The mode that begins when an Interval of mode `m` ends (R75, R118 (a)). -/
def otherMode : Mode → Mode
  | .space => .pulse
  | .pulse => .space

/-- R130: even positions require PULSE, odd positions SPACE. -/
def requiredMode (pos : BitVec 8) : Mode :=
  if pos.toNat % 2 = 0 then .pulse else .space

/-- R133: the second-stage positions, 1 to 3. -/
def isSyncPosition (pos : BitVec 8) : Bool :=
  decide (1 ≤ pos.toNat ∧ pos.toNat ≤ 3)

/-- R135: the positions at which the accumulator restarts. -/
def isResyncPosition (pos : BitVec 8) : Bool :=
  resyncPositions.contains pos

/-- R160, `fwd(s, id)`: the forwarding-authorized flag. It is not stored (R25). -/
def fwd (st : DecoderState) (id : BitVec 8) : Bool :=
  if id = 255 then true
  else if id = 254 then decide (st = .idle ∨ st = .header)
  else decide (st = .passthrough)

/-- R73 (a): the device ids the source gives no meaning. -/
def isReservedId (id : BitVec 8) : Bool :=
  decide (16 ≤ id.toNat ∧ id.toNat ≤ 253)

/-- R66: the device id of a decoded address, its low 4 bits. -/
def addressId (a : BitVec 16) : BitVec 4 := a.extractLsb' 0 4

/-- R66: the seven channel bits of a decoded address, bits 10:4. -/
def addressChannels (a : BitVec 16) : BitVec 7 := a.extractLsb' 4 7

/-- R141, `resolve(a)`: the verdict on a completed header. -/
def resolve (cfgId : BitVec 8) (cfgMask : BitVec 7) (a : BitVec 16) : DecoderState :=
  if cfgId = 0 then .passthrough
  else if 1 ≤ cfgId.toNat ∧ cfgId.toNat ≤ 15 then
    if addressId a = cfgId.extractLsb' 0 4 ∧ addressChannels a &&& cfgMask ≠ 0 then .passthrough
    else .bypass
  else .bypass

end Sys2Proof.Machine
end

