-- ==== Sys2Proof/WellFormed.lean ====
section
/-! DEFINITION. Which instructions an encoding can stand for. An event operation admits every operand
of its format. A decoder rule admits only the Intervals that R72 can select it for, in some state and
at some position: the conditions here are those of the table that speak of mode and duration alone;
those that speak of `dec_state` and the position are `Sys2Proof.ruleSelected` of Decode.lean. -/

namespace Sys2Proof

open Machine

/-- The mode and duration conditions of 30_encoding.md R72 (and of the `select` column of
spec/opcode_table.json) under the parameters `P`. A gap SPACE has left HEADER, BYPASS and
PASSTHROUGH before any of their rules is selected (R126). -/
def Instr.wellFormed (P : Params) : Instr → Bool
  | .clkTick => true
  | .debEdge _ => true
  | .debSettle => true
  | .debConfirm _ => true
  | .clkOvf => true
  | .clkNow => true
  | .smpPoll => true
  | .decStep _ _ => true
  | .outAuth => true
  | .outDrive => true
  | .topCycle _ => true
  | .sysReset _ _ _ => true
  | .sysCfgload _ _ => true
  | .sysCli => true
  | .sysRestore _ => true
  | .sysDiag _ => true
  | .decGap d => isGap P d
  | .decIdleLead d => inRange d P.tLead
  | .decIdleNop m d => !isLeadInterval P m d
  | .decHdrCount m d => !isGapInterval P m d
  | .decHdrParity m d => !isGapInterval P m d
  | .decHdrSync m d => !isGapInterval P m d
  | .decHdrBitp _ => true
  | .decHdrResync d => inRange d P.tBitp
  | .decHdrBit0 d => inRange d P.tZero && !isGap P d
  | .decHdrBit1 d => inRange d P.tOne && !inRange d P.tZero && !isGap P d
  | .decHdrBadbit d => !inRange d P.tZero && !inRange d P.tOne && !isGap P d
  | .decHdrDone d => inRange d P.tBitp
  | .decBypass m d => !isGapInterval P m d
  | .decPass m d => !isGapInterval P m d

end Sys2Proof
end

