-- ==== Sys2Proof/Decode.lean ====
section
/-! DEFINITION. The decoder of stimulus words, total and rejecting by name, and after it the encoder.
An event word (R70) names its operation. An Interval word (R63) names none: 30_encoding.md R72
selects the rules it stands for from `dec_state` and `hdr_cnt`, the block's stand-in for a program
counter (10_state.md R22), which is why `decode` takes them. -/

namespace Sys2Proof

open Machine

/-- What R72 reads of the state before an Interval: `dec_state` and `hdr_cnt`. -/
structure DecoderContext where
  decState : DecoderState
  hdrCnt : BitVec 8
deriving DecidableEq, Repr

/-- R72: does the row of rule `i` apply when the decoder is in `st` and the position is `pos`?
`st` is the state after the pre-check; in HEADER `pos` is the count after the increment. An event
operation is no row of that table. Positions outside 1 to 70 are unreachable; there the rows follow
the arms of R125's pseudocode, which is total (log 8). -/
def ruleSelected (P : Params) (st : DecoderState) (pos : BitVec 8) (i : Instr) : Bool :=
  i.wellFormed P &&
  match i with
  | .clkTick => false
  | .debEdge _ => false
  | .debSettle => false
  | .debConfirm _ => false
  | .clkOvf => false
  | .clkNow => false
  | .smpPoll => false
  | .decStep _ _ => false
  | .outAuth => false
  | .outDrive => false
  | .topCycle _ => false
  | .sysReset _ _ _ => false
  | .sysCfgload _ _ => false
  | .sysCli => false
  | .sysRestore _ => false
  | .sysDiag _ => false
  | .decGap _ => true
  | .decIdleLead _ => decide (st = .idle)
  | .decIdleNop _ _ => decide (st = .idle)
  | .decHdrCount _ _ => decide (st = .header)
  | .decHdrParity m _ => decide (st = .header ∧ m ≠ requiredMode pos)
  | .decHdrSync m _ => decide (st = .header ∧ m = requiredMode pos) && isSyncPosition pos
  | .decHdrBitp d =>
    decide (st = .header ∧ requiredMode pos = .pulse) && !isSyncPosition pos &&
      !(inRange d P.tBitp && (isResyncPosition pos || decide (pos = hdrTotal)))
  | .decHdrResync _ => decide (st = .header) && isResyncPosition pos
  | .decHdrBit0 _ => decide (st = .header ∧ requiredMode pos = .space) && !isSyncPosition pos
  | .decHdrBit1 _ => decide (st = .header ∧ requiredMode pos = .space) && !isSyncPosition pos
  | .decHdrBadbit _ => decide (st = .header ∧ requiredMode pos = .space) && !isSyncPosition pos
  | .decHdrDone _ => decide (st = .header ∧ pos = hdrTotal)
  | .decBypass _ _ => decide (st = .bypass)
  | .decPass _ _ => decide (st = .passthrough)

/-- The Interval a decoder rule is applied to; an event operation has none. -/
def ruleInterval : Instr → Option (Mode × Duration)
  | .clkTick => none
  | .debEdge _ => none
  | .debSettle => none
  | .debConfirm _ => none
  | .clkOvf => none
  | .clkNow => none
  | .smpPoll => none
  | .decStep _ _ => none
  | .outAuth => none
  | .outDrive => none
  | .topCycle _ => none
  | .sysReset _ _ _ => none
  | .sysCfgload _ _ => none
  | .sysCli => none
  | .sysRestore _ => none
  | .sysDiag _ => none
  | .decGap d => some (.space, d)
  | .decIdleLead d => some (.pulse, d)
  | .decIdleNop m d => some (m, d)
  | .decHdrCount m d => some (m, d)
  | .decHdrParity m d => some (m, d)
  | .decHdrSync m d => some (m, d)
  | .decHdrBitp d => some (.pulse, d)
  | .decHdrResync d => some (.pulse, d)
  | .decHdrBit0 d => some (.space, d)
  | .decHdrBit1 d => some (.space, d)
  | .decHdrBadbit d => some (.space, d)
  | .decHdrDone d => some (.pulse, d)
  | .decBypass m d => some (m, d)
  | .decPass m d => some (m, d)

/-- The rows of R72's second table whose encoding the Interval `{m, d}` fits. -/
def candidateRules (m : Mode) (d : Duration) : List Instr :=
  [.decIdleNop m d, .decHdrParity m d, .decHdrSync m d, .decBypass m d, .decPass m d] ++
  match m with
  | .pulse => [.decIdleLead d, .decHdrBitp d, .decHdrResync d, .decHdrDone d]
  | .space => [.decHdrBit0 d, .decHdrBit1 d, .decHdrBadbit d]

/-- R72 on the Interval `{m, d}`: `DEC.GAP` where the pre-check holds, `DEC.HDR.COUNT` in HEADER,
and the row of the second table that applies, in the order they act. -/
def selectRules (P : Params) (c : DecoderContext) (m : Mode) (d : Duration) : List Instr :=
  let gap := isGapInterval P m d
  let st := if gap then .idle else c.decState
  (if gap then [.decGap d] else []) ++
  (if st = .header then [.decHdrCount m d] else []) ++
  (candidateRules m d).filter (ruleSelected P st (c.hdrCnt + 1))

/-- An operation whose operand word has `width` bits: `make` reads it, and a bit above it is refused. -/
def withOperand (width : Nat) (operand : BitVec 40) (make : BitVec 40 → Instr) :
    Except StimError (List Instr) :=
  if operand >>> width = 0 then .ok [make operand] else .error .operandPadding

/-- The event word (R70). All 16 codes are operations; `lvl` is ignored by the operations that take
no level (R73 (f)). The CFG word is two bytes, of which bit 15, bit 7 of the mask byte, has no
meaning and is dropped (R195 (a)). -/
def decodeEvent (ev : BitVec 8) (operand : BitVec 40) : Except StimError (List Instr) :=
  let lvl := eventLevel ev
  if ev.extractLsb' 5 3 ≠ 0 then .error .eventPadding
  else
    match (eventOp ev).toNat with
    | 0 => withOperand 0 operand fun _ => .clkTick
    | 1 => withOperand 0 operand fun _ => .debEdge lvl
    | 2 => withOperand 0 operand fun _ => .debSettle
    | 3 => withOperand 0 operand fun _ => .debConfirm lvl
    | 4 => withOperand 0 operand fun _ => .clkOvf
    | 5 => withOperand 0 operand fun _ => .clkNow
    | 6 => withOperand 0 operand fun _ => .smpPoll
    | 7 => withOperand 33 operand fun w =>
        .decStep (intervalMode (w.setWidth 33)) (intervalDuration (w.setWidth 33))
    | 8 => withOperand 0 operand fun _ => .outAuth
    | 9 => withOperand 0 operand fun _ => .outDrive
    | 10 => withOperand 0 operand fun _ => .topCycle lvl
    | 11 => withOperand 16 operand fun w =>
        .sysReset lvl (cfgWordMask (w.setWidth 15)) (cfgWordId (w.setWidth 15))
    | 12 => withOperand 16 operand fun w =>
        .sysCfgload (cfgWordMask (w.setWidth 15)) (cfgWordId (w.setWidth 15))
    | 13 => withOperand 0 operand fun _ => .sysCli
    | 14 => withOperand 1 operand fun w => .sysRestore (w.getLsbD 0)
    -- the code is 15: `eventOp` has 4 bits
    | _ => withOperand 32 operand fun w => .sysDiag (w.setWidth 32)

/-- The Interval word (R63) delivered to the decoder alone: the rules R72 selects. -/
def decodeInterval (P : Params) (c : DecoderContext) (iv : BitVec 40) :
    Except StimError (List Instr) :=
  if iv >>> 33 = 0 then
    .ok (selectRules P c (intervalMode (iv.setWidth 33)) (intervalDuration (iv.setWidth 33)))
  else .error .intervalPadding

/-- The operations a stimulus word stands for, in the order they act: one for an event word, the
rules of R72 for an Interval word. -/
def decode (P : Params) (c : DecoderContext) : Stim → Except StimError (List Instr)
  | .event ev operand => decodeEvent ev operand
  | .interval iv => decodeInterval P c iv

/-- The Interval word `{m, d}` as a stimulus word. -/
def encodeInterval (m : Mode) (d : Duration) : Stim := .interval ((intervalWord m d).setWidth 40)

/-- The word of an instruction, from the same tables (R63, R64, R70). -/
def encode : Instr → Stim
  | .clkTick => .event (eventByte 0 false) 0
  | .debEdge lvl => .event (eventByte 1 lvl) 0
  | .debSettle => .event (eventByte 2 false) 0
  | .debConfirm lvl => .event (eventByte 3 lvl) 0
  | .clkOvf => .event (eventByte 4 false) 0
  | .clkNow => .event (eventByte 5 false) 0
  | .smpPoll => .event (eventByte 6 false) 0
  | .decStep m d => .event (eventByte 7 false) ((intervalWord m d).setWidth 40)
  | .outAuth => .event (eventByte 8 false) 0
  | .outDrive => .event (eventByte 9 false) 0
  | .topCycle lvl => .event (eventByte 10 lvl) 0
  | .sysReset lvl mask id => .event (eventByte 11 lvl) ((cfgWord mask id).setWidth 40)
  | .sysCfgload mask id => .event (eventByte 12 false) ((cfgWord mask id).setWidth 40)
  | .sysCli => .event (eventByte 13 false) 0
  | .sysRestore saved => .event (eventByte 14 false) ((BitVec.ofBool saved).setWidth 40)
  | .sysDiag value => .event (eventByte 15 false) (value.setWidth 40)
  | .decGap d => encodeInterval .space d
  | .decIdleLead d => encodeInterval .pulse d
  | .decIdleNop m d => encodeInterval m d
  | .decHdrCount m d => encodeInterval m d
  | .decHdrParity m d => encodeInterval m d
  | .decHdrSync m d => encodeInterval m d
  | .decHdrBitp d => encodeInterval .pulse d
  | .decHdrResync d => encodeInterval .pulse d
  | .decHdrBit0 d => encodeInterval .space d
  | .decHdrBit1 d => encodeInterval .space d
  | .decHdrBadbit d => encodeInterval .space d
  | .decHdrDone d => encodeInterval .pulse d
  | .decBypass m d => encodeInterval m d
  | .decPass m d => encodeInterval m d

/-- A word whose bits are numbered as spec/opcode_table.json numbers them, as a stimulus word. An IV
row has 33 bits, so 40 in whole bytes; an EV row has 5, so 8, and its operand word stands in the bytes
above the event byte (log 9). -/
def tableStim (nbits w : Nat) : Stim :=
  if 8 < nbits ∧ nbits ≤ 40 then .interval (BitVec.ofNat 40 w)
  else .event (BitVec.ofNat 8 w) (BitVec.ofNat 40 (w / 2 ^ 8))

/-- The decoder as it stands right after reset: `dec_state` IDLE, `hdr_cnt` 0 (R37). -/
def resetContext : DecoderContext := { decState := .idle, hdrCnt := 0 }

/-- The instruction the decoder reads from the bits of a table row. An Interval word is read in the
reset state of the decoder, under the reference parameters; where R72 selects several rules the
first is answered. -/
def decodeTableWord (nbits w : Nat) : Option Instr :=
  match decode referenceParams resetContext (tableStim nbits w) with
  | .ok (i :: _) => some i
  | .ok [] => none
  | .error _ => none

end Sys2Proof
end

