-- ==== Sys2Proof/Machine/State.lean ====
section
/-! DEFINITION. The state of the block (10_state.md), grouped by the owner R41 gives each register;
what a step can end in besides a next state; and the state after reset (R37). -/

namespace Sys2Proof.Machine

/-- The Monotonic Clock (R11, R12, R28). The Tick is not a register of its own (R18). -/
structure ClockRegs where
  /-- `cnt8`, the free-running hardware counter. -/
  cnt8 : BitVec 8
  /-- `ovf_flag`, the pending bit of the overflow interrupt. -/
  ovfFlag : Bool
  /-- `ovf_count`, the software-maintained overflow count. -/
  ovfCount : BitVec 24
deriving DecidableEq, Repr

/-- A one-shot deadline (R101): armed or not, and the Tick at which it fires if still armed. -/
structure Deadline where
  armed : Bool
  due : Tick
deriving DecidableEq, Repr

/-- The Activity Debouncer (R13, R14, R23, R27, R29, R30). -/
structure DebouncerRegs where
  /-- `act`, the activity state. -/
  act : Activity
  /-- `settle_armed`, `settle_due`. -/
  settle : Deadline
  /-- `confirm_armed`, `confirm_due`. -/
  confirm : Deadline
  /-- `last_level`, the level recorded when the confirm deadline was last armed. -/
  lastLevel : Level
  /-- `pin_prev`, the edge detector's memory. -/
  pinPrev : Level
deriving DecidableEq, Repr

/-- The Interval Sampler (R15, R24). -/
structure SamplerRegs where
  /-- `cur_mode`, the mode the main loop believes the line is in. -/
  curMode : Mode
  /-- `last_change`, the Tick of the last observed transition. -/
  lastChange : Tick
deriving DecidableEq, Repr

/-- The Protocol Decoder (R16, R17, R26). -/
structure DecoderRegs where
  /-- `dec_state`. -/
  decState : DecoderState
  /-- `hdr_cnt`. -/
  hdrCnt : BitVec 8
  /-- `addr_acc`. -/
  addrAcc : BitVec 16
deriving DecidableEq, Repr

/-- The latched Configuration (R31). -/
structure ConfigRegs where
  /-- `cfg_id`. -/
  cfgId : BitVec 8
  /-- `cfg_mask`. -/
  cfgMask : BitVec 7
deriving DecidableEq, Repr

/-- The input ports of 20_memory.md R50, at the level the environment drives now. `clk` is the step
itself and `out_n` is a register. No operation writes them. -/
structure Ports where
  /-- `rst`, synchronous and active high. -/
  rst : Bool
  /-- `rf_in`. -/
  rfIn : Level
  /-- `cfg_id_in`. -/
  cfgIdIn : BitVec 8
  /-- `cfg_mask_in`. -/
  cfgMaskIn : BitVec 7
deriving DecidableEq, Repr

/-- The value an operation hands back to whoever applied it. A field of the model, not a register of
the block (R175; log 3). -/
inductive ReturnValue where
  /-- Nothing returned since reset. -/
  | nothing
  /-- `CLK.NOW` (R93). -/
  | tick (t : Tick)
  /-- `OUT.AUTH` (R160). -/
  | authorized (flag : Bool)
  /-- `SYS.CLI` (R194): the old `ie`. -/
  | savedIe (ie : Bool)
deriving DecidableEq, Repr

/-- The state of the machine. `clk` to `outN` are every register the spec names (R37); `ports` are
its inputs; `stim`, `ret` and `params` are the model's own (log 1, log 3, log 4). -/
structure State where
  clk : ClockRegs
  deb : DebouncerRegs
  smp : SamplerRegs
  dec : DecoderRegs
  cfg : ConfigRegs
  /-- `ie`, the global interrupt-enable state (R32). -/
  ie : Bool
  /-- `out_n`, the level of the output pin (R33). -/
  outN : Level
  ports : Ports
  /-- The words of the stimulus not delivered yet, next one first. -/
  stim : List Stim
  ret : ReturnValue
  params : Params
deriving DecidableEq, Repr

/-- Faults. There are none: "nothing in this block traps" (30_encoding.md R73), and the error entries
of 60_exceptions.md R180 change no control flow. -/
inductive Fault where
deriving DecidableEq, Repr

/-- Why the model gives a situation no meaning. -/
inductive Refusal where
  /-- Raised by `exec` for an operation that has no meaning yet. Safe: nothing is claimed of it. -/
  | notModelled (mnemonic : String)
  /-- Raised by `SYS.DIAG`, which the spec refuses (R199). Safe: nothing is claimed of it. -/
  | diagnosticPath
  /-- Raised by `SYS.CFGLOAD` and `SYS.RESET` on a device id 16 to 253 where the parameters ask for
  the refusal of R195 (U1). Safe: nothing is claimed of such a configuration. -/
  | reservedDeviceId
  /-- Raised by a step under parameters that break 00_scope.md R4 (U11). Safe: the constraints are
  premises of the rules. -/
  | illegalParameters
  /-- Raised by a step whose stimulus word is no word of the formats (log 9). Safe: no operation
  runs. -/
  | badStimulus (e : StimError)
deriving DecidableEq, Repr

/-- The machine right after reset, every register at the value of R37's table: `rf_in` at its
default level 1 and the configuration inputs at their defaults 6 and 0x7F (R31, R210), under the
reference parameters (R3), with nothing in the stimulus queue (log 1, log 2). -/
def State.reset : State where
  clk := { cnt8 := 0, ovfFlag := false, ovfCount := 0 }
  deb :=
    { act := .inactive
      settle := { armed := false, due := 0 }
      confirm := { armed := false, due := 0 }
      lastLevel := true
      pinPrev := true }
  smp := { curMode := .space, lastChange := 0 }
  dec := { decState := .idle, hdrCnt := 0, addrAcc := 0 }
  cfg := { cfgId := defaultCfgId, cfgMask := defaultCfgMask }
  ie := true
  outN := true
  ports := { rst := false, rfIn := true, cfgIdIn := defaultCfgId, cfgMaskIn := defaultCfgMask }
  stim := []
  ret := .nothing
  params := referenceParams

end Sys2Proof.Machine
end

