-- ==== Sys2Proof/Machine/Ops.lean ====
section
/-! DEFINITION. The named operations over the registers that the meanings share: the updates of State,
the clock and deadline primitives, the bodies of the three debouncer handlers, the arms of the
decoder, and taking an interrupt. There is no memory and no computed address (R40). -/

namespace Sys2Proof.Machine

/-- State with other clock registers. -/
def State.withClk (s : State) (x : ClockRegs) : State := { s with clk := x }
/-- State with other debouncer registers. -/
def State.withDeb (s : State) (x : DebouncerRegs) : State := { s with deb := x }
/-- State with other sampler registers. -/
def State.withSmp (s : State) (x : SamplerRegs) : State := { s with smp := x }
/-- State with other decoder registers. -/
def State.withDec (s : State) (x : DecoderRegs) : State := { s with dec := x }
/-- State with another latched configuration. -/
def State.withCfg (s : State) (x : ConfigRegs) : State := { s with cfg := x }
/-- State with another `ie`. -/
def State.withIe (s : State) (x : Bool) : State := { s with ie := x }
/-- R45, `PinWrite(v)`: State with `out_n` at level `x`. -/
def State.withOutN (s : State) (x : Level) : State := { s with outN := x }
/-- State with other levels on the input ports. -/
def State.withPorts (s : State) (x : Ports) : State := { s with ports := x }
/-- State with another stimulus queue. -/
def State.withStim (s : State) (x : List Stim) : State := { s with stim := x }
/-- State with another returned value. -/
def State.withRet (s : State) (x : ReturnValue) : State := { s with ret := x }

/-! ## The clock (R90, R91, R93) -/

/-- R90, `CLK.TICK`: both lines read `cnt8` as it was (log 13). -/
def ClockRegs.tick (c : ClockRegs) : ClockRegs :=
  { c with cnt8 := c.cnt8 + 1, ovfFlag := c.ovfFlag || decide (c.cnt8 + 1 = 0) }

/-- R91, the body of the overflow handler. -/
def ClockRegs.countOverflow (c : ClockRegs) : ClockRegs :=
  { c with ovfCount := c.ovfCount + 1, ovfFlag := false }

/-- R93, the Tick: a pending overflow counts one full period, whatever `cnt8` reads. -/
def ClockRegs.now (c : ClockRegs) : Tick := tickOfParts c.ovfCount c.ovfFlag c.cnt8

/-- `NOW()` (R93): one atomic read that changes no register (R43, R92). -/
def State.now (s : State) : Tick := s.clk.now

/-! ## Deadlines (R101, R106) -/

/-- R101, `arm(x, t)`: an armed deadline forgets its old due time (R229). -/
def Deadline.arm (_ : Deadline) (t : Tick) : Deadline := { armed := true, due := t }

/-- R101, `disarm(x)`: the due time keeps its value and is not read. -/
def Deadline.disarm (x : Deadline) : Deadline := { x with armed := false }

/-- R106: armed, and due now. Equality of 32-bit values. -/
def Deadline.firesAt (x : Deadline) (now : Tick) : Bool := x.armed && decide (x.due = now)

/-- `NOW() +_32 OUTDELAY` (R103, R105). -/
def deadlineFrom (P : Params) (now : Tick) : Tick := now + BitVec.ofNat 32 P.outDelay

/-! ## The debouncer's handlers (R103 to R105) -/

/-- R103, the body of the edge handler at Tick `now`. -/
def DebouncerRegs.onEdge (P : Params) (now : Tick) (lvl : Level) (r : DebouncerRegs) :
    DebouncerRegs :=
  let t := deadlineFrom P now
  let started :=
    if r.act = .inactive then { r with settle := r.settle.arm t, act := .waiting } else r
  { started with confirm := started.confirm.arm t, lastLevel := lvl }

/-- R104, the body of the settle handler. -/
def DebouncerRegs.onSettle (r : DebouncerRegs) : DebouncerRegs :=
  { r with act := if r.act = .waiting then .active else r.act, settle := r.settle.disarm }

/-- R105, the body of the confirm handler at Tick `now`, the pin at `lvl`. -/
def DebouncerRegs.onConfirm (P : Params) (now : Tick) (lvl : Level) (r : DebouncerRegs) :
    DebouncerRegs :=
  if lvl ≠ r.lastLevel then
    { r with lastLevel := lvl, confirm := r.confirm.arm (deadlineFrom P now) }
  else
    { r with act := .inactive, settle := r.settle.disarm, confirm := r.confirm.disarm }

/-! ## Interrupts (R183 to R192)

Taking an interrupt saves nothing and changes nothing but what the handler writes: there is no saved
program counter, no cause register, no vector (R189). A handler ends when its pseudocode ends; there
is no return operation, and nothing to restore (R190). -/

/-- R183, "raised when" and "enabled by", with the pin at `lvl`. -/
def raised (src : IrqSource) (lvl : Level) (s : State) : Bool :=
  match src with
  | .pinChange => decide (lvl ≠ s.deb.pinPrev)
  | .settleCompare => s.deb.settle.firesAt s.now
  | .confirmCompare => s.deb.confirm.firesAt s.now
  | .overflow => s.clk.ovfFlag

/-- R183, "cleared by" and "handler": what taking the interrupt does. The pin change is cleared by
`pin_prev <- lvl` (R102); each other source is cleared by its handler. -/
def takeInterrupt (src : IrqSource) (lvl : Level) (s : State) : State :=
  match src with
  | .pinChange => s.withDeb (DebouncerRegs.onEdge s.params s.now lvl { s.deb with pinPrev := lvl })
  | .settleCompare => s.withDeb s.deb.onSettle
  | .confirmCompare => s.withDeb (DebouncerRegs.onConfirm s.params s.now lvl s.deb)
  | .overflow => s.withClk s.clk.countOverflow

/-- R188, one source when its turn comes: taken if it is raised now and not masked. `ie = 0` masks
all four sources (R191; log 6). -/
def serviceSource (lvl : Level) (s : State) (src : IrqSource) : State :=
  if s.ie && raised src lvl s then takeInterrupt src lvl s else s

/-- R188: the four sources, highest priority first. -/
def irqPriority : List IrqSource := [.pinChange, .settleCompare, .confirmCompare, .overflow]

/-- Steps 2 to 5 of R170: every source is tested when its turn comes, so a handler can cancel or
postpone a lower-priority source of the same cycle. -/
def serviceInterrupts (lvl : Level) (s : State) : State :=
  irqPriority.foldl (serviceSource lvl) s

/-! ## The decoder's arms (R126 to R144) -/

/-- R126: a gap forces IDLE and touches nothing else. -/
def DecoderRegs.forceIdle (r : DecoderRegs) : DecoderRegs := { r with decState := .idle }

/-- R127: entry to HEADER. -/
def DecoderRegs.enterHeader (_ : DecoderRegs) : DecoderRegs :=
  { decState := .header, hdrCnt := 0, addrAcc := 0 }

/-- R129: the increment of `hdr_cnt`. -/
def DecoderRegs.count (r : DecoderRegs) : DecoderRegs := { r with hdrCnt := r.hdrCnt + 1 }

/-- R144, `abandon(cause)`: the whole effect is BYPASS; the cause is stored nowhere (R180, R181). -/
def DecoderRegs.abandon (_cause : ErrorCause) (r : DecoderRegs) : DecoderRegs :=
  { r with decState := .bypass }

/-- R135: the accumulator restarts. -/
def DecoderRegs.restartAddress (r : DecoderRegs) : DecoderRegs := { r with addrAcc := 0 }

/-- R136, R137: one decoded bit is shifted in. -/
def DecoderRegs.shiftBit (b : Bool) (r : DecoderRegs) : DecoderRegs :=
  { r with addrAcc := shiftIn r.addrAcc b }

/-- R140: the verdict on the completed header. -/
def DecoderRegs.conclude (cfg : ConfigRegs) (r : DecoderRegs) : DecoderRegs :=
  { r with decState := resolve cfg.cfgId cfg.cfgMask r.addrAcc }

/-- The HEADER arm of R125's pseudocode after the increment: the position is `hdr_cnt`. -/
def DecoderRegs.headerArm (P : Params) (cfg : ConfigRegs) (m : Mode) (d : Duration)
    (r : DecoderRegs) : DecoderRegs :=
  let p := r.hdrCnt
  if m ≠ requiredMode p then r.abandon .parity
  else if isSyncPosition p then
    if inRange d P.tSync then r else r.abandon .tolerance
  else
    match m with
    | .pulse =>
      if !inRange d P.tBitp then r.abandon .tolerance
      else if isResyncPosition p then r.restartAddress
      else if p = hdrTotal then r.conclude cfg
      else r
    | .space =>
      if inRange d P.tZero then r.shiftBit false
      else if inRange d P.tOne then r.shiftBit true
      else r.abandon .tolerance

/-- R125: one decoder step on the Interval `{m, d}`. -/
def DecoderRegs.step (P : Params) (cfg : ConfigRegs) (m : Mode) (d : Duration) (r : DecoderRegs) :
    DecoderRegs :=
  let checked := if isGapInterval P m d then r.forceIdle else r
  match checked.decState with
  | .idle => if isLeadInterval P m d then checked.enterHeader else checked
  | .header => checked.count.headerArm P cfg m d
  | .bypass => checked
  | .passthrough => checked

/-- A rule of R72's table applied on its own: where the table selects it, its effect on the decoder's
registers; elsewhere it is not applied (log 7). -/
def applyRule (i : Instr) (effect : DecoderRegs → DecoderRegs) (s : State) : State :=
  if ruleSelected s.params s.dec.decState s.dec.hdrCnt i then s.withDec (effect s.dec) else s

/-! ## Configuration and reset (R195, R210) -/

/-- Is loading the device id `id` refused? R195 and U1 under `.refuse`, never under `.load`
(R73 (a); log 5). -/
def refusesId (P : Params) (id : BitVec 8) : Bool :=
  decide (P.reservedIds = .refuse) && isReservedId id

/-- R195: the latched configuration. -/
def latchConfig (mask : BitVec 7) (id : BitVec 8) : ConfigRegs := { cfgId := id, cfgMask := mask }

/-- R210 and the table of R37: every register at its reset value, the pin at `lvl`. The ports, the
stimulus and the parameters belong to the environment and stay. -/
def resetRegisters (lvl : Level) (mask : BitVec 7) (id : BitVec 8) (s : State) : State where
  clk := { cnt8 := 0, ovfFlag := false, ovfCount := 0 }
  deb :=
    { act := .inactive
      settle := { armed := false, due := 0 }
      confirm := { armed := false, due := 0 }
      lastLevel := lvl
      pinPrev := lvl }
  smp := { curMode := .space, lastChange := 0 }
  dec := { decState := .idle, hdrCnt := 0, addrAcc := 0 }
  cfg := latchConfig mask id
  ie := true
  outN := true
  ports := s.ports
  stim := s.stim
  ret := .nothing
  params := s.params

end Sys2Proof.Machine
end

