-- ==== Sys2Proof/Machine/Clock.lean ====
section
/-! DEFINITION. The Monotonic Clock (40_clock.md): `CLK.TICK`, `CLK.OVF`, `CLK.NOW`. -/

namespace Sys2Proof.Machine

/-- `CLK.TICK` (R90). -/
def execClkTick (s : State) : Host.Outcome State Fault Refusal := .next (s.withClk s.clk.tick)

/-- `CLK.OVF` (R91): with `ovf_flag = 0` or `ie = 0` it is not applied. -/
def execClkOvf (s : State) : Host.Outcome State Fault Refusal :=
  .next (if s.ie && s.clk.ovfFlag then s.withClk s.clk.countOverflow else s)

/-- `CLK.NOW` (R93): returns the Tick and changes no register. -/
def execClkNow (s : State) : Host.Outcome State Fault Refusal := .next (s.withRet (.tick s.now))

end Sys2Proof.Machine
end

