-- ==== Sys2Proof/Machine/Debouncer.lean ====
section
/-! DEFINITION. The Activity Debouncer (41_debouncer.md): `DEB.EDGE`, `DEB.SETTLE`, `DEB.CONFIRM`
applied directly. The word stands for the source being raised; the precondition `ie = 1` is the
state's, and with `ie = 0` the handler is not applied (log 6). -/

namespace Sys2Proof.Machine

/-- A debouncer handler applied directly: masked by `ie = 0`. -/
def applyHandler (body : DebouncerRegs → DebouncerRegs) (s : State) : State :=
  if s.ie then s.withDeb (body s.deb) else s

/-- `DEB.EDGE` (R103). `pin_prev` is the edge detector's (R102), not this operation's. -/
def execDebEdge (lvl : Level) (s : State) : Host.Outcome State Fault Refusal :=
  .next (applyHandler (DebouncerRegs.onEdge s.params s.now lvl) s)

/-- `DEB.SETTLE` (R104). -/
def execDebSettle (s : State) : Host.Outcome State Fault Refusal :=
  .next (applyHandler DebouncerRegs.onSettle s)

/-- `DEB.CONFIRM` (R105). -/
def execDebConfirm (lvl : Level) (s : State) : Host.Outcome State Fault Refusal :=
  .next (applyHandler (DebouncerRegs.onConfirm s.params s.now lvl) s)

end Sys2Proof.Machine
end

