-- ==== Sys2Proof/Machine/System.lean ====
section
/-! DEFINITION. The system operations (60_exceptions.md section 4, 70_reset_and_hazards.md R210):
`SYS.RESET`, `SYS.CFGLOAD`, `SYS.CLI`, `SYS.RESTORE`, `SYS.DIAG`. -/

namespace Sys2Proof.Machine

/-- `SYS.RESET` (R210, R212): nothing of the previous state survives. It ends in `SYS.CFGLOAD`, so a
configuration that is refused refuses the reset (U1). -/
def execSysReset (lvl : Level) (mask : BitVec 7) (id : BitVec 8) (s : State) :
    Host.Outcome State Fault Refusal :=
  if refusesId s.params id then .refused .reservedDeviceId
  else .next (resetRegisters lvl mask id s)

/-- `SYS.CFGLOAD` (R195). -/
def execSysCfgload (mask : BitVec 7) (id : BitVec 8) (s : State) :
    Host.Outcome State Fault Refusal :=
  if refusesId s.params id then .refused .reservedDeviceId
  else .next (s.withCfg (latchConfig mask id))

/-- `SYS.CLI` (R194): returns the old `ie` and disables interrupts. -/
def execSysCli (s : State) : Host.Outcome State Fault Refusal :=
  .next ((s.withIe false).withRet (.savedIe s.ie))

/-- `SYS.RESTORE` (R194): the saved `ie` is restored, not enabled. -/
def execSysRestore (saved : Bool) (s : State) : Host.Outcome State Fault Refusal :=
  .next (s.withIe saved)

/-- `SYS.DIAG` (R199): refused, whatever its operand; the production block has no such operation. -/
def execSysDiag (_value : BitVec 32) (_s : State) : Host.Outcome State Fault Refusal :=
  .refused .diagnosticPath

end Sys2Proof.Machine
end

