-- ==== Sys2Proof/Machine/Decoder.lean ====
section
/-! DEFINITION. The Protocol Decoder (43_decoder.md): `DEC.STEP`, written from the pseudocode of R125,
and the 14 rules of R72 applied one at a time, each from its own rule. In HEADER a rule reads the
position from `hdr_cnt`, already incremented by `DEC.HDR.COUNT` (R129). -/

namespace Sys2Proof.Machine

/-- One decoder step on the registers of State (R125). -/
def decoderStep (m : Mode) (d : Duration) (s : State) : State :=
  s.withDec (s.dec.step s.params s.cfg m d)

/-- `DEC.STEP` (R125). -/
def execDecStep (m : Mode) (d : Duration) (s : State) : Host.Outcome State Fault Refusal :=
  .next (decoderStep m d s)

/-- `DEC.GAP` (R126). -/
def execDecGap (d : Duration) (s : State) : Host.Outcome State Fault Refusal :=
  .next (applyRule (.decGap d) DecoderRegs.forceIdle s)

/-- `DEC.IDLE.LEAD` (R127). -/
def execDecIdleLead (d : Duration) (s : State) : Host.Outcome State Fault Refusal :=
  .next (applyRule (.decIdleLead d) DecoderRegs.enterHeader s)

/-- `DEC.IDLE.NOP` (R128): nothing is written. -/
def execDecIdleNop (m : Mode) (d : Duration) (s : State) : Host.Outcome State Fault Refusal :=
  .next (applyRule (.decIdleNop m d) id s)

/-- `DEC.HDR.COUNT` (R129). -/
def execDecHdrCount (m : Mode) (d : Duration) (s : State) : Host.Outcome State Fault Refusal :=
  .next (applyRule (.decHdrCount m d) DecoderRegs.count s)

/-- `DEC.HDR.PARITY` (R130). -/
def execDecHdrParity (m : Mode) (d : Duration) (s : State) : Host.Outcome State Fault Refusal :=
  .next (applyRule (.decHdrParity m d) (DecoderRegs.abandon .parity) s)

/-- `DEC.HDR.SYNC` (R133). -/
def execDecHdrSync (m : Mode) (d : Duration) (s : State) : Host.Outcome State Fault Refusal :=
  .next (applyRule (.decHdrSync m d)
    (fun r => if inRange d s.params.tSync then r else r.abandon .tolerance) s)

/-- `DEC.HDR.BITP` (R134). -/
def execDecHdrBitp (d : Duration) (s : State) : Host.Outcome State Fault Refusal :=
  .next (applyRule (.decHdrBitp d)
    (fun r => if inRange d s.params.tBitp then r else r.abandon .tolerance) s)

/-- `DEC.HDR.RESYNC` (R135). -/
def execDecHdrResync (d : Duration) (s : State) : Host.Outcome State Fault Refusal :=
  .next (applyRule (.decHdrResync d) DecoderRegs.restartAddress s)

/-- `DEC.HDR.BIT0` (R136). -/
def execDecHdrBit0 (d : Duration) (s : State) : Host.Outcome State Fault Refusal :=
  .next (applyRule (.decHdrBit0 d) (DecoderRegs.shiftBit false) s)

/-- `DEC.HDR.BIT1` (R137). -/
def execDecHdrBit1 (d : Duration) (s : State) : Host.Outcome State Fault Refusal :=
  .next (applyRule (.decHdrBit1 d) (DecoderRegs.shiftBit true) s)

/-- `DEC.HDR.BADBIT` (R138). -/
def execDecHdrBadbit (d : Duration) (s : State) : Host.Outcome State Fault Refusal :=
  .next (applyRule (.decHdrBadbit d) (DecoderRegs.abandon .tolerance) s)

/-- `DEC.HDR.DONE` (R140). -/
def execDecHdrDone (d : Duration) (s : State) : Host.Outcome State Fault Refusal :=
  .next (applyRule (.decHdrDone d) (DecoderRegs.conclude s.cfg) s)

/-- `DEC.BYPASS` (R142): nothing is written. -/
def execDecBypass (m : Mode) (d : Duration) (s : State) : Host.Outcome State Fault Refusal :=
  .next (applyRule (.decBypass m d) id s)

/-- `DEC.PASS` (R143): nothing is written by the decoder. -/
def execDecPass (m : Mode) (d : Duration) (s : State) : Host.Outcome State Fault Refusal :=
  .next (applyRule (.decPass m d) id s)

end Sys2Proof.Machine
end

