-- ==== Sys2Proof/Machine/Output.lean ====
section
/-! DEFINITION. The Output Driver (44_output.md): `OUT.AUTH`, `OUT.DRIVE`. -/

namespace Sys2Proof.Machine

/-- The forwarding-authorized flag of the state (R25, R160). -/
def State.authorized (s : State) : Bool := fwd s.dec.decState s.cfg.cfgId

/-- R161: the level the output is driven to; 0 is a forwarded pulse. -/
def outputLevel (authorized : Bool) (m : Mode) : Level := !(authorized && decide (m = .pulse))

/-- R161: drive the pin from the flag and the current mode. -/
def driveOutput (s : State) : State := s.withOutN (outputLevel s.authorized s.smp.curMode)

/-- `OUT.AUTH` (R160): returns the flag; nothing is stored. -/
def execOutAuth (s : State) : Host.Outcome State Fault Refusal :=
  .next (s.withRet (.authorized s.authorized))

/-- `OUT.DRIVE` (R161). -/
def execOutDrive (s : State) : Host.Outcome State Fault Refusal := .next (driveOutput s)

end Sys2Proof.Machine
end

