-- ==== Sys2Proof/Machine/Sampler.lean ====
section
/-! DEFINITION. The Interval Sampler (42_sampler.md): `SMP.POLL`. -/

namespace Sys2Proof.Machine

/-- R117: on a change of the mode read from `act`, one Interval is emitted, decoded, and the output
driven under the new decoder state and the mode that began; otherwise nothing. -/
def poll (s : State) : State :=
  let began := modeOf s.deb.act
  if began ≠ s.smp.curMode then
    let n := s.now
    let ended := s.smp.curMode
    let d := n - s.smp.lastChange
    driveOutput (decoderStep ended d (s.withSmp { curMode := began, lastChange := n }))
  else s

/-- `SMP.POLL` (R117). -/
def execSmpPoll (s : State) : Host.Outcome State Fault Refusal := .next (poll s)

end Sys2Proof.Machine
end

