-- ==== Sys2Proof/Machine/Top.lean ====
section
/-! DEFINITION. The composition into one synchronous block (45_top_level.md): `TOP.CYCLE`. -/

namespace Sys2Proof.Machine

/-- R170, R171: the tick, the four interrupt sources in priority order, then the main loop. -/
def cycle (lvl : Level) (s : State) : State :=
  poll (serviceInterrupts lvl (s.withClk s.clk.tick))

/-- `TOP.CYCLE` (R170). -/
def execTopCycle (lvl : Level) (s : State) : Host.Outcome State Fault Refusal := .next (cycle lvl s)

end Sys2Proof.Machine
end

