-- ==== Sys2Proof/Machine/Dispatch.lean ====
section
/-! DEFINITION. One arm per constructor of `Instr`, each one call of its meaning. -/

namespace Sys2Proof.Machine

def exec (i : Instr) (s : State) : Host.Outcome State Fault Refusal :=
  match i with
  | .clkTick => Sys2Proof.Machine.execClkTick s
  | .debEdge lvl => Sys2Proof.Machine.execDebEdge lvl s
  | .debSettle => Sys2Proof.Machine.execDebSettle s
  | .debConfirm lvl => Sys2Proof.Machine.execDebConfirm lvl s
  | .clkOvf => Sys2Proof.Machine.execClkOvf s
  | .clkNow => Sys2Proof.Machine.execClkNow s
  | .smpPoll => Sys2Proof.Machine.execSmpPoll s
  | .decStep m d => Sys2Proof.Machine.execDecStep m d s
  | .outAuth => Sys2Proof.Machine.execOutAuth s
  | .outDrive => Sys2Proof.Machine.execOutDrive s
  | .topCycle lvl => Sys2Proof.Machine.execTopCycle lvl s
  | .sysReset lvl mask id => Sys2Proof.Machine.execSysReset lvl mask id s
  | .sysCfgload mask id => Sys2Proof.Machine.execSysCfgload mask id s
  | .sysCli => Sys2Proof.Machine.execSysCli s
  | .sysRestore saved => Sys2Proof.Machine.execSysRestore saved s
  | .sysDiag value => Sys2Proof.Machine.execSysDiag value s
  | .decGap d => Sys2Proof.Machine.execDecGap d s
  | .decIdleLead d => Sys2Proof.Machine.execDecIdleLead d s
  | .decIdleNop m d => Sys2Proof.Machine.execDecIdleNop m d s
  | .decHdrCount m d => Sys2Proof.Machine.execDecHdrCount m d s
  | .decHdrParity m d => Sys2Proof.Machine.execDecHdrParity m d s
  | .decHdrSync m d => Sys2Proof.Machine.execDecHdrSync m d s
  | .decHdrBitp d => Sys2Proof.Machine.execDecHdrBitp d s
  | .decHdrResync d => Sys2Proof.Machine.execDecHdrResync d s
  | .decHdrBit0 d => Sys2Proof.Machine.execDecHdrBit0 d s
  | .decHdrBit1 d => Sys2Proof.Machine.execDecHdrBit1 d s
  | .decHdrBadbit d => Sys2Proof.Machine.execDecHdrBadbit d s
  | .decHdrDone d => Sys2Proof.Machine.execDecHdrDone d s
  | .decBypass m d => Sys2Proof.Machine.execDecBypass m d s
  | .decPass m d => Sys2Proof.Machine.execDecPass m d s

end Sys2Proof.Machine
end

