-- ==== Sys2Proof/Machine/Fetch.lean ====
section
/-! DEFINITION. What one step of the block is made of: the word the environment delivers next, the
operations it stands for, and their application as one atomic step (R52, R171; log 1). -/

namespace Sys2Proof.Machine

/-- The decoder context of a state (R72). -/
def State.decoderContext (s : State) : DecoderContext :=
  { decState := s.dec.decState, hdrCnt := s.dec.hdrCnt }

/-- R170, R210, R212: at a rising edge of `clk` with `rst = 1` the cycle's `TOP.CYCLE` is replaced by
`SYS.RESET`, the configuration re-latched from the inputs. `TOP.CYCLE` alone is an edge with the port
read: the word of a component alone (R71) is no edge, and the word of `SYS.RESET` is itself an edge
with `rst = 1` (log 14). -/
def underReset (p : Ports) (i : Instr) : Instr :=
  match i with
  | .topCycle lvl => if p.rst then .sysReset lvl p.cfgMaskIn p.cfgIdIn else .topCycle lvl
  | .clkTick | .debEdge _ | .debSettle | .debConfirm _ | .clkOvf | .clkNow | .smpPoll | .decStep _ _
  | .outAuth | .outDrive | .sysReset _ _ _ | .sysCfgload _ _ | .sysCli | .sysRestore _ | .sysDiag _
  | .decGap _ | .decIdleLead _ | .decIdleNop _ _ | .decHdrCount _ _ | .decHdrParity _ _
  | .decHdrSync _ _ | .decHdrBitp _ | .decHdrResync _ | .decHdrBit0 _ | .decHdrBit1 _
  | .decHdrBadbit _ | .decHdrDone _ | .decBypass _ _ | .decPass _ _ => i

/-- One rising edge of `clk` with nothing queued: `TOP.CYCLE` at the level on `rf_in` (R170), or
`SYS.RESET` if `rst = 1` (R210). -/
def clockEdge (s : State) : Instr := underReset s.ports (.topCycle s.ports.rfIn)

/-- The environment drives the ports to the levels its word carries: the pin level of an operation
that takes one is the level of `rf_in` (R44, R70), a CFG word is the configuration inputs (R46). No
word drives `rst`: the port keeps its level, also over the word of `SYS.RESET`, which asserts reset
for its own edge alone (DESIGN CHOICE, log 14). -/
def present (i : Instr) (s : State) : State :=
  match i with
  | .debEdge lvl => s.withPorts { s.ports with rfIn := lvl }
  | .debConfirm lvl => s.withPorts { s.ports with rfIn := lvl }
  | .topCycle lvl => s.withPorts { s.ports with rfIn := lvl }
  | .sysReset lvl mask id =>
    s.withPorts { s.ports with rfIn := lvl, cfgIdIn := id, cfgMaskIn := mask }
  | .sysCfgload mask id => s.withPorts { s.ports with cfgIdIn := id, cfgMaskIn := mask }
  | .clkTick => s
  | .debSettle => s
  | .clkOvf => s
  | .clkNow => s
  | .smpPoll => s
  | .decStep _ _ => s
  | .outAuth => s
  | .outDrive => s
  | .sysCli => s
  | .sysRestore _ => s
  | .sysDiag _ => s
  | .decGap _ => s
  | .decIdleLead _ => s
  | .decIdleNop _ _ => s
  | .decHdrCount _ _ => s
  | .decHdrParity _ _ => s
  | .decHdrSync _ _ => s
  | .decHdrBitp _ => s
  | .decHdrResync _ => s
  | .decHdrBit0 _ => s
  | .decHdrBit1 _ => s
  | .decHdrBadbit _ => s
  | .decHdrDone _ => s
  | .decBypass _ _ => s
  | .decPass _ _ => s

/-- The operations of one step in order, each seeing the writes of those before it (R52); the step
ends at the first that stops. -/
def execAll : List Instr → State → Host.Outcome State Fault Refusal
  | [], s => .next s
  | i :: rest, s =>
    match exec i (present i s) with
    | .next t => execAll rest t
    | .fault f => .fault f
    | .refused r => .refused r

/-- One step: parameters that break R4 are rejected (U11); a queued word is taken from the queue and
delivered, with `TOP.CYCLE` replaced by `SYS.RESET` while `rst = 1` (R212); with none queued the clock
has its edge. -/
def stepOnce (s : State) : Host.Outcome State Fault Refusal :=
  if paramsLegal s.params then
    match s.stim with
    | [] => execAll [clockEdge s] s
    | w :: rest =>
      match decode s.params s.decoderContext w with
      | .ok is => execAll (is.map (underReset s.ports)) (s.withStim rest)
      | .error e => .refused (.badStimulus e)
  else .refused .illegalParameters

end Sys2Proof.Machine
end

