-- ==== Sys2Proof/Machine/Step.lean ====
section
/-! DEFINITION. The step of the machine, and a word placed where the next step takes it. -/

namespace Sys2Proof.Machine

/-- One step of the block (Machine/Fetch.lean). -/
def step (s : State) : Host.Outcome State Fault Refusal := stepOnce s

/-- The state whose next step delivers the word `w` of `nbits` bits: it stands first in the stimulus
queue. -/
def State.withFetchWord (s : State) (nbits w : Nat) : State := s.withStim (tableStim nbits w :: s.stim)

end Sys2Proof.Machine
end

