-- ==== Sys2Proof/Machine/Stimulus.lean ====
section
/-! DEFINITION. Stimuli and runs (45_top_level.md R174; the notation of 30_encoding.md R75 and its
pseudo-statements, R76). A run is a reset and then finitely many cycles, or finitely many Intervals;
its result is the last state and the values of `out_n` on the way. -/

namespace Sys2Proof.Machine

/-- `P d` and `S d` of R75: `DEC.STEP` on the Interval, then `OUT.DRIVE` with `cur_mode` the mode that
begins. -/
def applyInterval (m : Mode) (d : Duration) (s : State) : Host.Outcome State Fault Refusal :=
  match exec (.decStep m d) s with
  | .next t => exec .outDrive (t.withSmp { t.smp with curMode := otherMode m })
  | .fault f => .fault f
  | .refused r => .refused r

/-- R174: apply `act` to each item in turn, recording `out_n` after each. -/
def runEach {α : Type} (act : α → State → Host.Outcome State Fault Refusal) :
    List α → State → Host.Outcome State Fault Refusal × List Level
  | [], s => (.next s, [])
  | a :: rest, s =>
    match act a s with
    | .next t => ((runEach act rest t).1, t.outN :: (runEach act rest t).2)
    | .fault f => (.fault f, [])
    | .refused r => (.refused r, [])

/-- `CFG id mask` and `INIT lvl` of R75, which open every stimulus. -/
structure Setup where
  id : BitVec 8
  mask : BitVec 7
  /-- Default 1, "pulled up when idle". -/
  init : Level := true
deriving DecidableEq, Repr

/-- The reset that opens a run (R174). -/
def startRun (c : Setup) (s : State) : Host.Outcome State Fault Refusal :=
  exec (.sysReset c.init c.mask c.id) s

/-- An Interval-level run (R75): the decoder and the output driver alone. -/
def runIntervals (c : Setup) (ivs : List (Mode × Duration)) (s : State) :
    Host.Outcome State Fault Refusal × List Level :=
  match startRun c s with
  | .next t => runEach (fun iv => applyInterval iv.1 iv.2) ivs t
  | .fault f => (.fault f, [])
  | .refused r => (.refused r, [])

/-- The level of `rf_in` at tick `t` when the pin toggles at each tick of `edges` (`E t` of R75). -/
def levelAt (init : Level) (edges : List Nat) (t : Nat) : Level :=
  init ^^ decide ((edges.countP (· ≤ t)) % 2 = 1)

/-- `RUN n` of R75: the cycles of ticks 1 to `n`. -/
def runCycles (init : Level) (edges : List Nat) (n : Nat) : List Instr :=
  (List.range' 1 n).map fun t => .topCycle (levelAt init edges t)

/-- A pin-level run (R75): the whole block. -/
def runPins (c : Setup) (edges : List Nat) (n : Nat) (s : State) :
    Host.Outcome State Fault Refusal × List Level :=
  match startRun c s with
  | .next t => runEach exec (runCycles c.init edges n) t
  | .fault f => (.fault f, [])
  | .refused r => (.refused r, [])

/-- The event words of a pin-level stimulus, as 95_test_vectors.md encodes its programs: the word of
`SYS.RESET`, then one word of `TOP.CYCLE` per tick. Placed in the queue of State they run by `step`. -/
def pinWords (c : Setup) (edges : List Nat) (n : Nat) : List Stim :=
  encode (.sysReset c.init c.mask c.id) :: (runCycles c.init edges n).map encode

/-- A nominal duration of R3 as the duration of an Interval. -/
def ticks (n : Nat) : Duration := BitVec.ofNat 32 n

/-- `GAP` of R76. -/
def gapInterval (P : Params) : Mode × Duration := (.space, ticks (P.tGap + 1))

/-- One copy of an address (R66): bit 10 first, each bit a PULSE and a SPACE. -/
def copyIntervals (P : Params) (a : BitVec 11) : List (Mode × Duration) :=
  (List.range 11).flatMap fun k =>
    [(.pulse, ticks P.tBitp), (.space, ticks (if a.getLsbD (10 - k) then P.tOne else P.tZero))]

/-- `HDR3 a0 a1 a2` of R76: the 71 Intervals of a header with nominal durations. -/
def headerIntervals (P : Params) (a0 a1 a2 : BitVec 11) : List (Mode × Duration) :=
  [(.pulse, ticks P.tLead), (.space, ticks P.tSync), (.pulse, ticks P.tSync), (.space, ticks P.tSync)]
    ++ copyIntervals P a0 ++ copyIntervals P a1 ++ copyIntervals P a2 ++ [(.pulse, ticks P.tBitp)]

/-- `BURST t0 n p` of R76: the ticks of `n` edges `p` ticks apart. -/
def burst (t0 n p : Nat) : List Nat := (List.range n).map fun k => t0 + k * p

end Sys2Proof.Machine
end

