-- ==== Sys2Proof/Safety.lean ====
section
/-! DEFINITION. The terms the statements about runs are made in: the invariants of 10_state.md R38,
what the environment may apply (R71), a well-formed header (R65, R66), and the complement of the
input line (R108). -/

namespace Sys2Proof.Machine

/-- R38 (h): `hdr_cnt` never passes the header's end, and in HEADER has not reached it. -/
def HeaderBounds (s : State) : Prop :=
  (s.dec.decState = .header → s.dec.hdrCnt.toNat ≤ 69) ∧ s.dec.hdrCnt.toNat ≤ 70

/-- An armed deadline lies 1 to `OUTDELAY` ticks ahead of the Tick (R106 (d): one whose due time has
passed without firing cannot exist). -/
def Deadline.ahead (P : Params) (now : Tick) (x : Deadline) : Prop :=
  x.armed = true → 1 ≤ (x.due - now).toNat ∧ (x.due - now).toNat ≤ P.outDelay

/-- The invariants of R38 at a cycle boundary, (a) to (d), (f) and (h) to (j) and of (e) that
`ovf_flag` is 0, with R106 (d) and the constraints of R4. (g) holds by the type of `act`; the rest of
(e) is a statement about runs. -/
structure CycleInv (s : State) : Prop where
  legal : paramsLegal s.params = true
  settleArmed : s.deb.settle.armed = true ↔ s.deb.act = .waiting
  confirmArmed : s.deb.confirm.armed = true ↔ s.deb.act ≠ .inactive
  confirmAfterSettle : s.deb.settle.armed = true → s.deb.confirm.armed = true →
    (s.deb.confirm.due - s.deb.settle.due).toNat < s.params.outDelay
  settleAhead : s.deb.settle.ahead s.params s.now
  confirmAhead : s.deb.confirm.ahead s.params s.now
  levels : s.deb.lastLevel = s.deb.pinPrev
  noOverflow : s.clk.ovfFlag = false
  modes : s.smp.curMode = modeOf s.deb.act
  header : HeaderBounds s
  output : s.outN = false → s.smp.curMode = .pulse ∧ fwd s.dec.decState s.cfg.cfgId = true
  enabled : s.ie = true

/-- R71: only `TOP.CYCLE` and `SYS.RESET` are applied by the environment. -/
def isEnvironmentWord : Stim → Bool
  | .event ev _ => decide (eventOp ev = 10 ∨ eventOp ev = 11)
  | .interval _ => false

/-- The whole block under its environment: the queue holds no word of a component alone. -/
def EnvDriven (s : State) : Prop := ∀ w ∈ s.stim, isEnvironmentWord w = true

/-- R162: `out_n` is the combinational function of R161. -/
def OutputFollows (s : State) : Prop :=
  s.outN = !(fwd s.dec.decState s.cfg.cfgId && decide (s.smp.curMode = .pulse))

/-- R66: the bit of the three copies that the SPACE at position `pos` (odd, 5 to 69) carries. -/
def headerBit (a0 a1 a2 : BitVec 11) (pos : Nat) : Bool :=
  (if pos < 26 then a0 else if pos < 48 then a1 else a2).getLsbD (10 - ((pos - 4) % 22 - 1) / 2)

/-- R65: the nominal duration at each position of a header with the copies `a0`, `a1`, `a2`. -/
def headerNominal (P : Params) (a0 a1 a2 : BitVec 11) (pos : Nat) : Nat :=
  if pos = 0 then P.tLead
  else if pos ≤ 3 then P.tSync
  else if pos % 2 = 0 then P.tBitp
  else if headerBit a0 a1 a2 pos then P.tOne
  else P.tZero

/-- R65, R145: the durations `ds` of positions 0 to 70 are each inside their window and none is a
gap. -/
def IsHeader (P : Params) (a0 a1 a2 : BitVec 11) (ds : Nat → Duration) : Prop :=
  ∀ pos ≤ 70, inRange (ds pos) (headerNominal P a0 a1 a2 pos) = true ∧
    (pos % 2 = 1 → (ds pos).toNat ≤ P.tGap)

/-- The decoder steps of a header: PULSE at even positions, SPACE at odd ones (R65). -/
def headerSteps (ds : Nat → Duration) : List Instr :=
  (List.range 71).map fun pos => .decStep (requiredMode (BitVec.ofNat 8 pos)) (ds pos)

/-- R108: the same state with the input line complemented. -/
def flipLine (s : State) : State :=
  { s with
    deb := { s.deb with lastLevel := !s.deb.lastLevel, pinPrev := !s.deb.pinPrev }
    ports := { s.ports with rfIn := !s.ports.rfIn } }

end Sys2Proof.Machine
end

