-- ==== Sys2Proof/Certificates/Slice0/Obligations.lean ====
section
/-! DEFINITION. The statements for the provers. Each `exec … = .next { s with … }` says at once that
the operation completes, what it writes and that everything else of State is unchanged (its frame).
The block has no addressable memory (R35), so no statement speaks of memory. -/

open Sys2Proof Sys2Proof.Machine

/-! ## The Monotonic Clock -/

/-- R90: the effect of `CLK.TICK` in every state, the unserviced second wrap of corner case (a)
included. That both lines of the pseudocode read `cnt8` as it was is log 13 (DEDUCED from the rule's
comment and example); its place in the cycle is CycleIsItsSixSteps. -/
def Obligations.ClkTickAdvancesCounter : Prop :=
  ∀ s : State, exec .clkTick s = .next { s with
    clk :=
      { cnt8 := s.clk.cnt8 + 1
        ovfFlag := s.clk.ovfFlag || decide (s.clk.cnt8 = 255)
        ovfCount := s.clk.ovfCount } }

/-- R91: `CLK.OVF` with its precondition met, and its no-op with `ovf_flag = 0`. -/
def Obligations.ClkOvfCountsPendingPeriod : Prop :=
  ∀ s : State,
    (s.ie = true → s.clk.ovfFlag = true →
      ∃ n : BitVec 24, n.toNat = (s.clk.ovfCount.toNat + 1) % 2 ^ 24 ∧
        exec .clkOvf s = .next { s with
          clk := { cnt8 := s.clk.cnt8, ovfFlag := false, ovfCount := n } }) ∧
    (s.clk.ovfFlag = false → exec .clkOvf s = .next s)

/-- R93: `CLK.NOW` returns `{ovf_count +_24 ovf_flag, cnt8}` and changes no register. The field `ret`
that holds the value is the model's own (log 3). -/
def Obligations.ClkNowReturnsTick : Prop :=
  ∀ s : State, ∃ n : Tick,
    n.toNat = (s.clk.ovfCount.toNat + s.clk.ovfFlag.toNat) % 2 ^ 24 * 2 ^ 8 + s.clk.cnt8.toNat ∧
    exec .clkNow s = .next { s with ret := .tick n }

/-- 40_clock.md R94 (its induction step) with R90 (a): `CLK.TICK` moves the Tick by exactly 1, but for
the second wrap over an unserviced overflow, which loses one period of 256; `CLK.OVF` does not move
it. -/
def Obligations.TickMovesByOneOrLosesPeriod : Prop :=
  ∀ s t : State,
    (exec .clkTick s = .next t →
      t.now = if s.clk.ovfFlag = true ∧ s.clk.cnt8 = 255 then s.now + 1 - 256 else s.now + 1) ∧
    (exec .clkOvf s = .next t → t.now = s.now)

/-- 40_clock.md R94 and R95 with the invariants of R38: over any run of cycles from a state with the
invariants, every cycle completes, the Tick counts the cycles exactly (modulo its wrap, R96), and the
invariants hold again. -/
def Obligations.TickCountsCyclesExactly : Prop :=
  ∀ (lvls : List Level) (s : State), CycleInv s →
    ∃ t, execAll (lvls.map fun l => .topCycle l) s = .next t ∧
      t.now = s.now + BitVec.ofNat 32 lvls.length ∧ CycleInv t

/-! ## The Activity Debouncer -/

/-- R103: both cases of the edge handler, `ie = 1`. -/
def Obligations.DebEdgeArmsDeadlines : Prop :=
  ∀ (s : State) (lvl : Level), s.ie = true →
    exec (.debEdge lvl) s = .next { s with
      deb :=
        { act := if s.deb.act = .inactive then .waiting else s.deb.act
          settle :=
            if s.deb.act = .inactive then
              { armed := true, due := s.now + BitVec.ofNat 32 s.params.outDelay }
            else s.deb.settle
          confirm := { armed := true, due := s.now + BitVec.ofNat 32 s.params.outDelay }
          lastLevel := lvl
          pinPrev := s.deb.pinPrev } }

/-- R104: the settle handler, `ie = 1`; the confirm deadline is untouched. -/
def Obligations.DebSettleConfirmsActivity : Prop :=
  ∀ s : State, s.ie = true →
    exec .debSettle s = .next { s with
      deb := { s.deb with
        act := if s.deb.act = .waiting then .active else s.deb.act
        settle := { armed := false, due := s.deb.settle.due } } }

/-- R105: both branches of the confirm handler, `ie = 1`. -/
def Obligations.DebConfirmExtendsOrEnds : Prop :=
  ∀ (s : State) (lvl : Level), s.ie = true →
    (lvl ≠ s.deb.lastLevel →
      exec (.debConfirm lvl) s = .next { s with
        deb := { s.deb with
          lastLevel := lvl
          confirm := { armed := true, due := s.now + BitVec.ofNat 32 s.params.outDelay } } }) ∧
    (lvl = s.deb.lastLevel →
      exec (.debConfirm lvl) s = .next { s with
        deb := { s.deb with
          act := .inactive
          settle := { armed := false, due := s.deb.settle.due }
          confirm := { armed := false, due := s.deb.confirm.due } } })

/-- The model's choice of log 6, from the preconditions `ie = 1` of R91 and R103 to R105 and from
R191: a handler applied directly while `ie = 0` is not applied. -/
def Obligations.MaskedHandlersAreNotApplied : Prop :=
  ∀ (s : State) (i : Instr) (lvl : Level), s.ie = false →
    i ∈ [Instr.debEdge lvl, .debSettle, .debConfirm lvl, .clkOvf] → exec i s = .next s

/-- 41_debouncer.md R107 and R110: from an inactive cycle boundary, a first edge and then any levels.
Before `OUTDELAY` more cycles have passed activity is WAITING whatever the pin does; after exactly
`OUTDELAY` it is ACTIVE if some later edge came in that time, and over already if none did. -/
def Obligations.ActivityAssertedAfterOutdelay : Prop :=
  ∀ (s : State) (lvl : Level) (lvls : List Level), CycleInv s → s.deb.act = .inactive →
    lvl ≠ s.deb.pinPrev → lvls.length ≤ s.params.outDelay →
    ∃ t, execAll ((lvl :: lvls).map fun l => .topCycle l) s = .next t ∧
      (lvls.length < s.params.outDelay → t.deb.act = .waiting) ∧
      (lvls.length = s.params.outDelay →
        t.deb.act = if ∀ l ∈ lvls, l = lvl then .inactive else .active)

/-- 41_debouncer.md R100 and R107: after the last edge activity lasts exactly `OUTDELAY` ticks. An
edge in one cycle, then `k` cycles at the same level: activity is over if and only if
`OUTDELAY <= k`. -/
def Obligations.ActivityEndsOutdelayAfterLastEdge : Prop :=
  ∀ (s : State) (lvl : Level) (k : Nat), CycleInv s → lvl ≠ s.deb.pinPrev →
    ∃ t, execAll (List.replicate (k + 1) (.topCycle lvl)) s = .next t ∧
      (t.deb.act = .inactive ↔ s.params.outDelay ≤ k)

/-- 41_debouncer.md R110: a lone edge produces no Interval: after the cycle of the edge and `OUTDELAY`
cycles more, the sampler, the decoder and the output are as they were. That the transient inside the
cycle is not seen is U4 as the spec fixes it (log 11). -/
def Obligations.LoneEdgeProducesNoInterval : Prop :=
  ∀ (s : State) (lvl : Level), CycleInv s → s.deb.act = .inactive → lvl ≠ s.deb.pinPrev →
    ∃ t, execAll (List.replicate (s.params.outDelay + 1) (.topCycle lvl)) s = .next t ∧
      t.deb.act = .inactive ∧ t.smp = s.smp ∧ t.dec = s.dec ∧ t.outN = s.outN

/-- 41_debouncer.md R108: polarity independence of a cycle, in every state. -/
def Obligations.CycleIgnoresPolarity : Prop :=
  ∀ (s t : State) (lvl : Level), exec (.topCycle lvl) s = .next t →
    exec (.topCycle (!lvl)) (flipLine s) = .next (flipLine t)

/-! ## The Interval Sampler -/

/-- R117 with R116: while the mode read from `act` is `cur_mode`, a poll does nothing; on a change it
is `DEC.STEP` on the Interval that ended, of duration `NOW() -_32 last_change`, with `cur_mode` and
`last_change` already updated, and then `OUT.DRIVE`. -/
def Obligations.PollEmitsOnModeChange : Prop :=
  ∀ s : State,
    ((s.deb.act = .active ↔ s.smp.curMode = .pulse) → exec .smpPoll s = .next s) ∧
    (¬(s.deb.act = .active ↔ s.smp.curMode = .pulse) →
      ∃ u t, exec (.decStep s.smp.curMode (s.now - s.smp.lastChange))
          { s with smp :=
            { curMode := if s.deb.act = .active then .pulse else .space, lastChange := s.now } } =
          .next u ∧
        exec .outDrive u = .next t ∧ exec .smpPoll s = .next t)

/-! ## The Protocol Decoder: the step -/

/-- R125 with R129: a decoder step completes on every Interval in every state and writes the decoder's
registers alone; `hdr_cnt` is incremented on every Interval that is no gap in HEADER, cleared on entry
to HEADER, and otherwise kept. -/
def Obligations.DecStepCountsHeaderIntervals : Prop :=
  ∀ (s : State) (m : Mode) (d : Duration), ∃ r : DecoderRegs,
    exec (.decStep m d) s = .next { s with dec := r } ∧
    r.hdrCnt =
      (if s.dec.decState = .header ∧ ¬(m = .space ∧ s.params.tGap < d.toNat) then s.dec.hdrCnt + 1
      else if s.dec.decState ≠ .header ∧ r.decState = .header then 0
      else s.dec.hdrCnt)

/-- R126 for the whole step: a SPACE longer than `T_GAP` forces IDLE from any state, and neither
`hdr_cnt` nor `addr_acc` is touched. -/
def Obligations.GapSpaceForcesIdle : Prop :=
  ∀ (s : State) (d : Duration), s.params.tGap < d.toNat →
    exec (.decStep .space d) s = .next { s with dec := { s.dec with decState := .idle } }

/-- R142, R143 and R126 (d) for the step: in BYPASS and PASSTHROUGH every Interval that is no gap,
a lead pulse included, changes nothing. -/
def Obligations.TerminalStatesIgnoreIntervals : Prop :=
  ∀ (s : State) (m : Mode) (d : Duration),
    s.dec.decState = .bypass ∨ s.dec.decState = .passthrough →
    ¬(m = .space ∧ s.params.tGap < d.toNat) → exec (.decStep m d) s = .next s

/-- R126 (d), over all operations: no operation takes the decoder from BYPASS or PASSTHROUGH to any
other state than IDLE. -/
def Obligations.TerminalStatesLeftOnlyToIdle : Prop :=
  ∀ (i : Instr) (s t : State), exec i s = .next t →
    s.dec.decState = .bypass ∨ s.dec.decState = .passthrough →
    t.dec.decState = s.dec.decState ∨ t.dec.decState = .idle

/-- The property P5 of 95_test_vectors.md with R130: an Interval of the wrong mode at any position of a
header that is no gap abandons the frame to BYPASS, with the position counted and the accumulator
kept. -/
def Obligations.WrongModeAbandonsHeader : Prop :=
  ∀ (s : State) (m : Mode) (d : Duration), s.dec.decState = .header → s.dec.hdrCnt.toNat ≤ 69 →
    ¬(m = .space ∧ s.params.tGap < d.toNat) →
    (m = .pulse ↔ (s.dec.hdrCnt.toNat + 1) % 2 = 1) →
    exec (.decStep m d) s = .next { s with
      dec := { s.dec with decState := .bypass, hdrCnt := s.dec.hdrCnt + 1 } }

/-- R72 against R125: in every state and for every Interval, applying in order the rules that the
table of 30_encoding.md R72 selects is the step of 43_decoder.md R125's pseudocode. At the positions 0
and 71 to 255 of HEADER, which no run reaches and R72 does not list, the selection is the model's,
log 8 (DEDUCED). -/
def Obligations.SelectedRulesAreTheStep : Prop :=
  ∀ (s : State) (m : Mode) (d : Duration),
    execAll (selectRules s.params s.decoderContext m d) s = exec (.decStep m d) s

/-- R72: exactly one row of the second table applies to each Interval, at every position and in every
state that the pre-check can leave. At the positions 0 and 71 to 255 of HEADER, which R72 does not
list, the selection is the model's, log 8 (DEDUCED). -/
def Obligations.ExactlyOneRuleApplies : Prop :=
  ∀ (P : Params) (st : DecoderState) (pos : BitVec 8) (m : Mode) (d : Duration),
    (m = .space → P.tGap < d.toNat → st = .idle) →
    ∃ i, (candidateRules m d).filter (ruleSelected P st pos) = [i]

/-- R65 to R67, R140, R145 and the property P3 of 95_test_vectors.md: from IDLE, any 71 Intervals
whose durations lie in the windows of a header with the copies `a0`, `a1`, `a2` end in the verdict on
copy 2 alone, with the 11 bits of copy 2 in `addr_acc`, and change nothing outside the decoder. That
copies 0 and 1 are not cross-validated is U3 as the spec fixes it (log 11). -/
def Obligations.HeaderResolvesOnLastCopy : Prop :=
  ∀ (s : State) (a0 a1 a2 : BitVec 11) (ds : Nat → Duration),
    paramsLegal s.params = true → s.dec.decState = .idle → IsHeader s.params a0 a1 a2 ds →
    execAll (headerSteps ds) s = .next { s with
      dec :=
        { decState := resolve s.cfg.cfgId s.cfg.cfgMask (a2.setWidth 16)
          hdrCnt := 70
          addrAcc := a2.setWidth 16 } }

/-! ## The Protocol Decoder: the rules one at a time

In HEADER a rule reads its position from `hdr_cnt`, which `DEC.HDR.COUNT` has incremented (R129). -/

/-- R126 for the pre-check row alone. -/
def Obligations.GapRuleForcesIdle : Prop :=
  ∀ (s : State) (d : Duration), s.params.tGap < d.toNat →
    exec (.decGap d) s = .next { s with dec := { s.dec with decState := .idle } }

/-- R127. -/
def Obligations.LeadRuleEntersHeader : Prop :=
  ∀ (s : State) (d : Duration), s.dec.decState = .idle →
    4 * s.params.tLead ≤ 5 * d.toNat → 5 * d.toNat ≤ 6 * s.params.tLead →
    exec (.decIdleLead d) s = .next { s with
      dec := { decState := .header, hdrCnt := 0, addrAcc := 0 } }

/-- R128, R142, R143: the three rules that write nothing. -/
def Obligations.SkippingRulesWriteNothing : Prop :=
  ∀ (s : State) (m : Mode) (d : Duration),
    (s.dec.decState = .idle →
      ¬(m = .pulse ∧ 4 * s.params.tLead ≤ 5 * d.toNat ∧ 5 * d.toNat ≤ 6 * s.params.tLead) →
      exec (.decIdleNop m d) s = .next s) ∧
    (s.dec.decState = .bypass → ¬(m = .space ∧ s.params.tGap < d.toNat) →
      exec (.decBypass m d) s = .next s) ∧
    (s.dec.decState = .passthrough → ¬(m = .space ∧ s.params.tGap < d.toNat) →
      exec (.decPass m d) s = .next s)

/-- R129. -/
def Obligations.CountRuleIncrements : Prop :=
  ∀ (s : State) (m : Mode) (d : Duration), s.dec.decState = .header →
    ¬(m = .space ∧ s.params.tGap < d.toNat) →
    ∃ n : BitVec 8, n.toNat = (s.dec.hdrCnt.toNat + 1) % 256 ∧
      exec (.decHdrCount m d) s = .next { s with dec := { s.dec with hdrCnt := n } }

/-- R130. -/
def Obligations.ParityRuleAbandons : Prop :=
  ∀ (s : State) (m : Mode) (d : Duration), s.dec.decState = .header →
    ¬(m = .space ∧ s.params.tGap < d.toNat) →
    (m = .pulse ↔ s.dec.hdrCnt.toNat % 2 = 1) →
    exec (.decHdrParity m d) s = .next { s with dec := { s.dec with decState := .bypass } }

/-- R133: in the window nothing is written; out of it the frame is abandoned. -/
def Obligations.SyncRuleChecksSecondStage : Prop :=
  ∀ (s : State) (m : Mode) (d : Duration), s.dec.decState = .header →
    1 ≤ s.dec.hdrCnt.toNat → s.dec.hdrCnt.toNat ≤ 3 →
    (m = .pulse ↔ s.dec.hdrCnt.toNat % 2 = 0) → ¬(m = .space ∧ s.params.tGap < d.toNat) →
    exec (.decHdrSync m d) s =
      if 4 * s.params.tSync ≤ 5 * d.toNat ∧ 5 * d.toNat ≤ 6 * s.params.tSync then .next s
      else .next { s with dec := { s.dec with decState := .bypass } }

/-- R134: at every even position from 4 to 70 a PULSE out of the window abandons the frame; one in the
window writes nothing where the position is none of 4, 26, 48 and 70. -/
def Obligations.BitPulseRuleChecksWidth : Prop :=
  ∀ (s : State) (d : Duration), s.dec.decState = .header →
    s.dec.hdrCnt.toNat % 2 = 0 → 4 ≤ s.dec.hdrCnt.toNat → s.dec.hdrCnt.toNat ≤ 70 →
    (¬(4 * s.params.tBitp ≤ 5 * d.toNat ∧ 5 * d.toNat ≤ 6 * s.params.tBitp) →
      exec (.decHdrBitp d) s = .next { s with dec := { s.dec with decState := .bypass } }) ∧
    (4 * s.params.tBitp ≤ 5 * d.toNat → 5 * d.toNat ≤ 6 * s.params.tBitp →
      s.dec.hdrCnt.toNat ∉ [4, 26, 48, 70] → exec (.decHdrBitp d) s = .next s)

/-- R135. -/
def Obligations.ResyncRuleClearsAddress : Prop :=
  ∀ (s : State) (d : Duration), s.dec.decState = .header → s.dec.hdrCnt.toNat ∈ [4, 26, 48] →
    4 * s.params.tBitp ≤ 5 * d.toNat → 5 * d.toNat ≤ 6 * s.params.tBitp →
    exec (.decHdrResync d) s = .next { s with dec := { s.dec with addrAcc := 0 } }

/-- R136, R137, R138 with R139: the bit of a SPACE at an odd position from 5 to 69. A 0 or a 1 is
shifted into the accumulator modulo `2^16`; a duration in neither window abandons the frame. -/
def Obligations.BitRulesShiftOrAbandon : Prop :=
  ∀ (s : State) (d : Duration) (zero one : Prop), s.dec.decState = .header →
    s.dec.hdrCnt.toNat % 2 = 1 → 5 ≤ s.dec.hdrCnt.toNat → s.dec.hdrCnt.toNat ≤ 69 →
    d.toNat ≤ s.params.tGap →
    (zero ↔ 4 * s.params.tZero ≤ 5 * d.toNat ∧ 5 * d.toNat ≤ 6 * s.params.tZero) →
    (one ↔ 4 * s.params.tOne ≤ 5 * d.toNat ∧ 5 * d.toNat ≤ 6 * s.params.tOne) →
    (zero → ∃ a : BitVec 16, a.toNat = s.dec.addrAcc.toNat * 2 % 2 ^ 16 ∧
      exec (.decHdrBit0 d) s = .next { s with dec := { s.dec with addrAcc := a } }) ∧
    (one → ¬zero → ∃ a : BitVec 16, a.toNat = (s.dec.addrAcc.toNat * 2 + 1) % 2 ^ 16 ∧
      exec (.decHdrBit1 d) s = .next { s with dec := { s.dec with addrAcc := a } }) ∧
    (¬zero → ¬one →
      exec (.decHdrBadbit d) s = .next { s with dec := { s.dec with decState := .bypass } })

/-- R140: the verdict at position 70, `addr_acc` and `hdr_cnt` kept. -/
def Obligations.DoneRuleTakesVerdict : Prop :=
  ∀ (s : State) (d : Duration), s.dec.decState = .header → s.dec.hdrCnt.toNat = 70 →
    4 * s.params.tBitp ≤ 5 * d.toNat → 5 * d.toNat ≤ 6 * s.params.tBitp →
    exec (.decHdrDone d) s = .next { s with
      dec := { s.dec with decState := resolve s.cfg.cfgId s.cfg.cfgMask s.dec.addrAcc } }

/-- The model's choice of log 7: a rule of R72's table applied where the table does not select it is
not applied. -/
def Obligations.UnselectedRulesAreNotApplied : Prop :=
  ∀ (s : State) (i : Instr), (ruleInterval i).isSome = true →
    ruleSelected s.params s.dec.decState s.dec.hdrCnt i = false → exec i s = .next s

/-- R131 and R69: the accepted durations are `ceil(4N/5)` to `floor(6N/5)`, and they are those with
`4N <= 5d <= 6N`. -/
def Obligations.ClassifierAcceptsExactWindow : Prop :=
  ∀ (d : Duration) (N : Nat),
    (inRange d N = true ↔ 4 * N ≤ 5 * d.toNat ∧ 5 * d.toNat ≤ 6 * N) ∧
    (inRange d N = true ↔ (4 * N + 4) / 5 ≤ d.toNat ∧ d.toNat ≤ 6 * N / 5)

/-- R141: PASSTHROUGH exactly for id 0, or for an id 1 to 15 that is the low 4 bits of the accumulator
while some enabled channel bit `a[4+k]` is set; BYPASS otherwise. -/
def Obligations.VerdictNeedsIdAndChannel : Prop :=
  ∀ (id : BitVec 8) (mask : BitVec 7) (a : BitVec 16),
    (resolve id mask a = .passthrough ↔
      id = 0 ∨ (1 ≤ id.toNat ∧ id.toNat ≤ 15 ∧ a.toNat % 16 = id.toNat ∧
        ∃ k < 7, a.getLsbD (4 + k) = true ∧ mask.getLsbD k = true)) ∧
    (resolve id mask a ≠ .passthrough → resolve id mask a = .bypass)

/-! ## The Output Driver -/

/-- R160: `OUT.AUTH` returns `fwd(dec_state, cfg_id)` and stores nothing. The field `ret` that holds
the value is the model's own (log 3). -/
def Obligations.AuthReturnsForwardingFlag : Prop :=
  ∀ s : State, ∃ flag : Bool,
    (flag = true ↔ s.cfg.cfgId = 255 ∨
      (s.cfg.cfgId = 254 ∧ (s.dec.decState = .idle ∨ s.dec.decState = .header)) ∨
      (s.cfg.cfgId ≠ 254 ∧ s.cfg.cfgId ≠ 255 ∧ s.dec.decState = .passthrough)) ∧
    exec .outAuth s = .next { s with ret := .authorized flag }

/-- R161: `OUT.DRIVE` writes 0 exactly when forwarding is authorized and the mode is PULSE, and 1
otherwise, whatever the pin held. -/
def Obligations.DriveForwardsAuthorizedPulse : Prop :=
  ∀ s : State,
    (fwd s.dec.decState s.cfg.cfgId = true ∧ s.smp.curMode = .pulse →
      exec .outDrive s = .next { s with outN := false }) ∧
    (¬(fwd s.dec.decState s.cfg.cfgId = true ∧ s.smp.curMode = .pulse) →
      exec .outDrive s = .next { s with outN := true })

/-- 44_output.md R162: with `out_n` at the combinational value at one cycle boundary it is at that
value at the next, and there a further `OUT.DRIVE` changes nothing. -/
def Obligations.OutputStaysCombinational : Prop :=
  ∀ (s t : State) (lvl : Level), CycleInv s → OutputFollows s →
    exec (.topCycle lvl) s = .next t → OutputFollows t ∧ exec .outDrive t = .next t

/-- 44_output.md R163 for id 255: at every cycle boundary `out_n` is the complement of the debounced
activity. -/
def Obligations.RawIdMirrorsActivity : Prop :=
  ∀ (s t : State) (lvl : Level), CycleInv s → OutputFollows s → s.cfg.cfgId = 255 →
    exec (.topCycle lvl) s = .next t → t.outN = !decide (t.deb.act = .active)

/-- R73 (a): with a reserved device id the output never leaves 1, and no header resolves to
PASSTHROUGH. -/
def Obligations.ReservedIdNeverForwards : Prop :=
  ∀ (lvls : List Level) (s : State), CycleInv s → 16 ≤ s.cfg.cfgId.toNat →
    s.cfg.cfgId.toNat ≤ 253 → s.dec.decState ≠ .passthrough →
    ∃ t, execAll (lvls.map fun l => .topCycle l) s = .next t ∧
      t.outN = true ∧ t.dec.decState ≠ .passthrough

/-! ## The system operations -/

/-- R210 with the table of R37, for a device id that is not reserved: every register takes its reset
value. Ports, stimulus and parameters belong to the environment; `ret` is the model's own field, and
that it is emptied is the model's choice (log 3). -/
def Obligations.ResetEstablishesTable : Prop :=
  ∀ (s : State) (lvl : Level) (mask : BitVec 7) (id : BitVec 8),
    ¬(16 ≤ id.toNat ∧ id.toNat ≤ 253) →
    exec (.sysReset lvl mask id) s = .next
      { clk := { cnt8 := 0, ovfFlag := false, ovfCount := 0 }
        deb :=
          { act := .inactive, settle := { armed := false, due := 0 },
            confirm := { armed := false, due := 0 }, lastLevel := lvl, pinPrev := lvl }
        smp := { curMode := .space, lastChange := 0 }
        dec := { decState := .idle, hdrCnt := 0, addrAcc := 0 }
        cfg := { cfgId := id, cfgMask := mask }
        ie := true
        outN := true
        ports := s.ports
        stim := s.stim
        ret := .nothing
        params := s.params }

/-- R195 for a device id that is not reserved. -/
def Obligations.CfgLoadLatchesConfiguration : Prop :=
  ∀ (s : State) (mask : BitVec 7) (id : BitVec 8), ¬(16 ≤ id.toNat ∧ id.toNat ≤ 253) →
    exec (.sysCfgload mask id) s = .next { s with cfg := { cfgId := id, cfgMask := mask } }

/-- The two treatments of a reserved device id, of which the parameters choose one (log 5): R195's and
U1's refusal, of the load and of the reset; or the load of R73 (a), "a model that must be total". -/
def Obligations.ReservedIdRefusedOrLoaded : Prop :=
  ∀ (s : State) (lvl : Level) (mask : BitVec 7) (id : BitVec 8),
    16 ≤ id.toNat → id.toNat ≤ 253 →
    (s.params.reservedIds = .refuse →
      exec (.sysCfgload mask id) s = .refused .reservedDeviceId ∧
      exec (.sysReset lvl mask id) s = .refused .reservedDeviceId) ∧
    (s.params.reservedIds = .load →
      exec (.sysCfgload mask id) s = .next { s with cfg := { cfgId := id, cfgMask := mask } } ∧
      ∃ t, exec (.sysReset lvl mask 0) s = .next t ∧
        exec (.sysReset lvl mask id) s =
          .next { t with cfg := { cfgId := id, cfgMask := mask } })

/-- R194: `SYS.CLI` returns the old `ie` and clears it; `SYS.RESTORE` writes its operand; so a section
that restores what it was given leaves `ie` as it found it, and sections nest. The field `ret` that
holds the value is the model's own (log 3). -/
def Obligations.CriticalSectionRestoresEnable : Prop :=
  ∀ (s : State) (saved : Bool),
    exec .sysCli s = .next { s with ie := false, ret := .savedIe s.ie } ∧
    exec (.sysRestore saved) s = .next { s with ie := saved }

/-- R199: `SYS.DIAG` is refused in every state, whatever its operand. -/
def Obligations.DiagnosticPathIsRefused : Prop :=
  ∀ (s : State) (value : BitVec 32), exec (.sysDiag value) s = .refused .diagnosticPath

/-- R41, over all operations: each register is written only by the operations of its owner, and no
operation writes a port, the stimulus or a parameter. -/
def Obligations.OnlyOwnersWrite : Prop :=
  ∀ (i : Instr) (s t : State), exec i s = .next t →
    (∃ lvl mask id, i = .sysReset lvl mask id) ∨
    (t.ports = s.ports ∧ t.stim = s.stim ∧ t.params = s.params ∧
      (t.clk ≠ s.clk → i = .clkTick ∨ i = .clkOvf ∨ ∃ lvl, i = .topCycle lvl) ∧
      (t.deb ≠ s.deb → i = .debSettle ∨
        ∃ lvl, i = .debEdge lvl ∨ i = .debConfirm lvl ∨ i = .topCycle lvl) ∧
      (t.smp ≠ s.smp → i = .smpPoll ∨ ∃ lvl, i = .topCycle lvl) ∧
      (t.dec ≠ s.dec → i = .smpPoll ∨ (∃ lvl, i = .topCycle lvl) ∨ (∃ m d, i = .decStep m d) ∨
        (ruleInterval i).isSome = true) ∧
      (t.cfg ≠ s.cfg → ∃ mask id, i = .sysCfgload mask id) ∧
      (t.ie ≠ s.ie → i = .sysCli ∨ ∃ saved, i = .sysRestore saved) ∧
      (t.outN ≠ s.outN → i = .outDrive ∨ i = .smpPoll ∨ ∃ lvl, i = .topCycle lvl))

/-! ## The composition -/

/-- R170, `ie = 1`: a cycle is its six numbered steps in order, each seeing the registers as the steps
before it left them. -/
def Obligations.CycleIsItsSixSteps : Prop :=
  ∀ (s : State) (lvl : Level), s.ie = true →
    ∃ s1 s2 s3 s4 s5 t,
      exec .clkTick s = .next s1 ∧
      (if lvl ≠ s1.deb.pinPrev then
        exec (.debEdge lvl) { s1 with deb := { s1.deb with pinPrev := lvl } } = .next s2
        else s2 = s1) ∧
      (if s2.deb.settle.armed = true ∧ s2.deb.settle.due = s2.now then
        exec .debSettle s2 = .next s3 else s3 = s2) ∧
      (if s3.deb.confirm.armed = true ∧ s3.deb.confirm.due = s3.now then
        exec (.debConfirm lvl) s3 = .next s4 else s4 = s3) ∧
      (if s4.clk.ovfFlag = true then exec .clkOvf s4 = .next s5 else s5 = s4) ∧
      exec .smpPoll s5 = .next t ∧
      exec (.topCycle lvl) s = .next t

/-- The model's choice of log 6, from R188 and R191: with `ie = 0` a cycle ticks and polls, and takes
no interrupt. -/
def Obligations.MaskedCycleTicksAndPolls : Prop :=
  ∀ (s : State) (lvl : Level), s.ie = false →
    ∃ s1 t, exec .clkTick s = .next s1 ∧ exec .smpPoll s1 = .next t ∧
      exec (.topCycle lvl) s = .next t

/-- 10_state.md R38 at the reset state, and R162's value of the output there. -/
def Obligations.ResetMeetsCycleInvariants : Prop :=
  CycleInv State.reset ∧ OutputFollows State.reset ∧ HeaderBounds State.reset ∧
    EnvDriven State.reset

/-- 10_state.md R38, inductive: in every state with the invariants, whatever the input ports carry and
whatever cycles and resets the environment has queued, a step that answers a next state keeps them. -/
def Obligations.StepKeepsCycleInvariants : Prop :=
  ∀ s t : State, CycleInv s → EnvDriven s → step s = .next t → CycleInv t ∧ EnvDriven t

/-- 10_state.md R38 (h), for every stimulus: the words of components alone keep the bounds of `hdr_cnt`
too. -/
def Obligations.StepKeepsHeaderBounds : Prop :=
  ∀ s t : State, HeaderBounds s → step s = .next t → HeaderBounds t

/-- `State.reset` is the state `SYS.RESET` gives with the default inputs of R31 and R210, from every
state with the reference parameters of R3, the default ports and an empty queue: nothing else of the
previous state survives (R212). The ports and the queue are logs 1 and 2, `ret` is log 3. -/
def Obligations.ResetStateIsSysResetOfDefaults : Prop :=
  ∀ s : State, s.params = referenceParams →
    s.ports = { rst := false, rfIn := true, cfgIdIn := 6, cfgMaskIn := 0b1111111 } → s.stim = [] →
    exec (.sysReset true 0b1111111 6) s = .next State.reset

/-! ## The step and the words -/

/-- The step in the model's own terms (log 1). With a word queued that decodes to an event operation
`i`, a step is `exec i` on the state with the word taken from the queue and the word's levels on the
ports; but a `TOP.CYCLE` delivered while `rst = 1` is replaced by `SYS.RESET`, the configuration
re-latched from the inputs (R170, R212; that no other word reads `rst` is log 14). With none queued a
step is one clock edge, `SYS.RESET` if `rst = 1` (R210) and else `TOP.CYCLE` at the level on `rf_in`
(R170); an Interval word is `DEC.STEP` on its Interval (R72, R125). -/
def Obligations.StepRunsDecodedOperation : Prop :=
  ∀ s : State, paramsLegal s.params = true →
    (∀ w rest i, s.stim = w :: rest → decode s.params s.decoderContext w = .ok [i] →
      ruleInterval i = none → (s.ports.rst = false ∨ ∀ lvl, i ≠ .topCycle lvl) →
      step s = exec i (present i { s with stim := rest })) ∧
    (∀ w rest lvl, s.stim = w :: rest →
      decode s.params s.decoderContext w = .ok [.topCycle lvl] → s.ports.rst = true →
      step s = exec (.sysReset lvl s.ports.cfgMaskIn s.ports.cfgIdIn)
        { s with stim := rest, ports := { s.ports with rfIn := lvl } }) ∧
    (∀ m d rest, s.stim = encodeInterval m d :: rest →
      step s = exec (.decStep m d) { s with stim := rest }) ∧
    (s.stim = [] → s.ports.rst = false → step s = exec (.topCycle s.ports.rfIn) s) ∧
    (s.stim = [] → s.ports.rst = true →
      step s = exec (.sysReset s.ports.rfIn s.ports.cfgMaskIn s.ports.cfgIdIn) s)

/-- U11 and log 9: a step under parameters that break R4, and a step whose word is no word of the
formats, are refused by name. -/
def Obligations.StepRefusesBadInput : Prop :=
  ∀ s : State,
    (paramsLegal s.params = false → step s = .refused .illegalParameters) ∧
    (∀ w rest e, paramsLegal s.params = true → s.stim = w :: rest →
      decode s.params s.decoderContext w = .error e → step s = .refused (.badStimulus e))

/-- R70: every event operation, with every operand at every value its format admits, decodes back from
its word, under any parameters and in any state of the decoder. -/
def Obligations.EventWordsRoundTrip : Prop :=
  ∀ (P : Params) (c : DecoderContext) (i : Instr), ruleInterval i = none →
    decode P c (encode i) = .ok [i]

/-- R63 and R72: the Interval word of every decoder rule decodes, in every decoder context in which
R72 selects the rule, to rules of that same Interval among which it stands. -/
def Obligations.IntervalWordsRoundTrip : Prop :=
  ∀ (P : Params) (c : DecoderContext) (i : Instr) (m : Mode) (d : Duration),
    ruleInterval i = some (m, d) →
    ruleSelected P (if isGapInterval P m d then .idle else c.decState) (c.hdrCnt + 1) i = true →
    ∃ is, decode P c (encode i) = .ok is ∧ i ∈ is ∧ ∀ j ∈ is, ruleInterval j = some (m, d)

/-- One word for each of the 16 operation codes of R70, both levels for the operations that take one,
with the operand words of R63 and R64, and one Interval word; the words of 95_test_vectors.md where it
has one. The layout in whole bytes is log 9. -/
def Obligations.VectorWordsDecode : Prop :=
  ∀ (P : Params) (c : DecoderContext),
    decode P c (.event 0x00 0) = .ok [.clkTick] ∧
    decode P c (.event 0x02 0) = .ok [.debEdge false] ∧
    decode P c (.event 0x03 0) = .ok [.debEdge true] ∧
    decode P c (.event 0x04 0) = .ok [.debSettle] ∧
    decode P c (.event 0x06 0) = .ok [.debConfirm false] ∧
    decode P c (.event 0x07 0) = .ok [.debConfirm true] ∧
    decode P c (.event 0x08 0) = .ok [.clkOvf] ∧
    decode P c (.event 0x0A 0) = .ok [.clkNow] ∧
    decode P c (.event 0x0C 0) = .ok [.smpPoll] ∧
    decode P c (.event 0x0E 0x100001388) = .ok [.decStep .pulse 5000] ∧
    decode P c (.event 0x0E 0x0000001F4) = .ok [.decStep .space 500] ∧
    decode P c (.event 0x10 0) = .ok [.outAuth] ∧
    decode P c (.event 0x12 0) = .ok [.outDrive] ∧
    decode P c (.event 0x14 0) = .ok [.topCycle false] ∧
    decode P c (.event 0x15 0) = .ok [.topCycle true] ∧
    decode P c (.event 0x16 0x01FE) = .ok [.sysReset false 0x01 254] ∧
    decode P c (.event 0x17 0x7F06) = .ok [.sysReset true 0x7F 6] ∧
    decode P c (.event 0x18 0x4006) = .ok [.sysCfgload 0x40 6] ∧
    decode P c (.event 0x1A 0) = .ok [.sysCli] ∧
    decode P c (.event 0x1C 0) = .ok [.sysRestore false] ∧
    decode P c (.event 0x1C 1) = .ok [.sysRestore true] ∧
    decode P c (.event 0x1E 0xDEADBEEF) = .ok [.sysDiag 0xDEADBEEF] ∧
    decode referenceParams { decState := .header, hdrCnt := 0 } (.interval 0x0000001F4) =
      .ok [.decHdrCount .space 500, .decHdrSync .space 500]

/-- R60 to R62: the number each table gives each value, and that every code is read back; the only
2-bit code without a meaning is `0b11` of `act`. -/
def Obligations.EnumerationCodesRoundTrip : Prop :=
  (modeBit .space = false ∧ modeBit .pulse = true) ∧
  (activityCode .inactive = 0b00 ∧ activityCode .waiting = 0b01 ∧ activityCode .active = 0b10) ∧
  (decoderStateCode .idle = 0 ∧ decoderStateCode .header = 1 ∧ decoderStateCode .bypass = 2 ∧
    decoderStateCode .passthrough = 3) ∧
  (∀ m : Mode, modeOfBit (modeBit m) = m) ∧
  (∀ a : Activity, activityOfCode (activityCode a) = some a) ∧
  (∀ c : BitVec 2, activityOfCode c = none ↔ c = 0b11) ∧
  (∀ st : DecoderState, decoderStateOfCode (decoderStateCode st) = st) ∧
  (∀ c : BitVec 2, decoderStateCode (decoderStateOfCode c) = c)
end

