-- ==== Sys2Proof/Laws/State.lean ====
section
/-! SUPPORT. One lemma per field per update of State, so that no later proof unfolds an update: what an
update writes, what it leaves, and that it leaves the Tick and the forwarding flag where it can. -/

namespace Sys2Proof.Machine

/-! `withClk` -/

@[simp] theorem State.withClk_clk (s : State) (x : ClockRegs) : (s.withClk x).clk = x := rfl
@[simp] theorem State.withClk_deb (s : State) (x : ClockRegs) : (s.withClk x).deb = s.deb := rfl
@[simp] theorem State.withClk_smp (s : State) (x : ClockRegs) : (s.withClk x).smp = s.smp := rfl
@[simp] theorem State.withClk_dec (s : State) (x : ClockRegs) : (s.withClk x).dec = s.dec := rfl
@[simp] theorem State.withClk_cfg (s : State) (x : ClockRegs) : (s.withClk x).cfg = s.cfg := rfl
@[simp] theorem State.withClk_ie (s : State) (x : ClockRegs) : (s.withClk x).ie = s.ie := rfl
@[simp] theorem State.withClk_outN (s : State) (x : ClockRegs) : (s.withClk x).outN = s.outN := rfl
@[simp] theorem State.withClk_ports (s : State) (x : ClockRegs) : (s.withClk x).ports = s.ports := rfl
@[simp] theorem State.withClk_stim (s : State) (x : ClockRegs) : (s.withClk x).stim = s.stim := rfl
@[simp] theorem State.withClk_ret (s : State) (x : ClockRegs) : (s.withClk x).ret = s.ret := rfl
@[simp] theorem State.withClk_params (s : State) (x : ClockRegs) : (s.withClk x).params = s.params := rfl
@[simp] theorem State.withClk_now (s : State) (x : ClockRegs) : (s.withClk x).now = x.now := rfl
@[simp] theorem State.withClk_authorized (s : State) (x : ClockRegs) :
    (s.withClk x).authorized = s.authorized := rfl
@[simp] theorem State.withClk_self (s : State) : s.withClk s.clk = s := rfl

/-! `withDeb` -/

@[simp] theorem State.withDeb_clk (s : State) (x : DebouncerRegs) : (s.withDeb x).clk = s.clk := rfl
@[simp] theorem State.withDeb_deb (s : State) (x : DebouncerRegs) : (s.withDeb x).deb = x := rfl
@[simp] theorem State.withDeb_smp (s : State) (x : DebouncerRegs) : (s.withDeb x).smp = s.smp := rfl
@[simp] theorem State.withDeb_dec (s : State) (x : DebouncerRegs) : (s.withDeb x).dec = s.dec := rfl
@[simp] theorem State.withDeb_cfg (s : State) (x : DebouncerRegs) : (s.withDeb x).cfg = s.cfg := rfl
@[simp] theorem State.withDeb_ie (s : State) (x : DebouncerRegs) : (s.withDeb x).ie = s.ie := rfl
@[simp] theorem State.withDeb_outN (s : State) (x : DebouncerRegs) : (s.withDeb x).outN = s.outN := rfl
@[simp] theorem State.withDeb_ports (s : State) (x : DebouncerRegs) : (s.withDeb x).ports = s.ports := rfl
@[simp] theorem State.withDeb_stim (s : State) (x : DebouncerRegs) : (s.withDeb x).stim = s.stim := rfl
@[simp] theorem State.withDeb_ret (s : State) (x : DebouncerRegs) : (s.withDeb x).ret = s.ret := rfl
@[simp] theorem State.withDeb_params (s : State) (x : DebouncerRegs) : (s.withDeb x).params = s.params := rfl
@[simp] theorem State.withDeb_now (s : State) (x : DebouncerRegs) : (s.withDeb x).now = s.now := rfl
@[simp] theorem State.withDeb_authorized (s : State) (x : DebouncerRegs) :
    (s.withDeb x).authorized = s.authorized := rfl
@[simp] theorem State.withDeb_self (s : State) : s.withDeb s.deb = s := rfl

/-! `withSmp` -/

@[simp] theorem State.withSmp_clk (s : State) (x : SamplerRegs) : (s.withSmp x).clk = s.clk := rfl
@[simp] theorem State.withSmp_deb (s : State) (x : SamplerRegs) : (s.withSmp x).deb = s.deb := rfl
@[simp] theorem State.withSmp_smp (s : State) (x : SamplerRegs) : (s.withSmp x).smp = x := rfl
@[simp] theorem State.withSmp_dec (s : State) (x : SamplerRegs) : (s.withSmp x).dec = s.dec := rfl
@[simp] theorem State.withSmp_cfg (s : State) (x : SamplerRegs) : (s.withSmp x).cfg = s.cfg := rfl
@[simp] theorem State.withSmp_ie (s : State) (x : SamplerRegs) : (s.withSmp x).ie = s.ie := rfl
@[simp] theorem State.withSmp_outN (s : State) (x : SamplerRegs) : (s.withSmp x).outN = s.outN := rfl
@[simp] theorem State.withSmp_ports (s : State) (x : SamplerRegs) : (s.withSmp x).ports = s.ports := rfl
@[simp] theorem State.withSmp_stim (s : State) (x : SamplerRegs) : (s.withSmp x).stim = s.stim := rfl
@[simp] theorem State.withSmp_ret (s : State) (x : SamplerRegs) : (s.withSmp x).ret = s.ret := rfl
@[simp] theorem State.withSmp_params (s : State) (x : SamplerRegs) : (s.withSmp x).params = s.params := rfl
@[simp] theorem State.withSmp_now (s : State) (x : SamplerRegs) : (s.withSmp x).now = s.now := rfl
@[simp] theorem State.withSmp_authorized (s : State) (x : SamplerRegs) :
    (s.withSmp x).authorized = s.authorized := rfl
@[simp] theorem State.withSmp_self (s : State) : s.withSmp s.smp = s := rfl

/-! `withDec` -/

@[simp] theorem State.withDec_clk (s : State) (x : DecoderRegs) : (s.withDec x).clk = s.clk := rfl
@[simp] theorem State.withDec_deb (s : State) (x : DecoderRegs) : (s.withDec x).deb = s.deb := rfl
@[simp] theorem State.withDec_smp (s : State) (x : DecoderRegs) : (s.withDec x).smp = s.smp := rfl
@[simp] theorem State.withDec_dec (s : State) (x : DecoderRegs) : (s.withDec x).dec = x := rfl
@[simp] theorem State.withDec_cfg (s : State) (x : DecoderRegs) : (s.withDec x).cfg = s.cfg := rfl
@[simp] theorem State.withDec_ie (s : State) (x : DecoderRegs) : (s.withDec x).ie = s.ie := rfl
@[simp] theorem State.withDec_outN (s : State) (x : DecoderRegs) : (s.withDec x).outN = s.outN := rfl
@[simp] theorem State.withDec_ports (s : State) (x : DecoderRegs) : (s.withDec x).ports = s.ports := rfl
@[simp] theorem State.withDec_stim (s : State) (x : DecoderRegs) : (s.withDec x).stim = s.stim := rfl
@[simp] theorem State.withDec_ret (s : State) (x : DecoderRegs) : (s.withDec x).ret = s.ret := rfl
@[simp] theorem State.withDec_params (s : State) (x : DecoderRegs) : (s.withDec x).params = s.params := rfl
@[simp] theorem State.withDec_now (s : State) (x : DecoderRegs) : (s.withDec x).now = s.now := rfl
@[simp] theorem State.withDec_self (s : State) : s.withDec s.dec = s := rfl

/-! `withCfg` -/

@[simp] theorem State.withCfg_clk (s : State) (x : ConfigRegs) : (s.withCfg x).clk = s.clk := rfl
@[simp] theorem State.withCfg_deb (s : State) (x : ConfigRegs) : (s.withCfg x).deb = s.deb := rfl
@[simp] theorem State.withCfg_smp (s : State) (x : ConfigRegs) : (s.withCfg x).smp = s.smp := rfl
@[simp] theorem State.withCfg_dec (s : State) (x : ConfigRegs) : (s.withCfg x).dec = s.dec := rfl
@[simp] theorem State.withCfg_cfg (s : State) (x : ConfigRegs) : (s.withCfg x).cfg = x := rfl
@[simp] theorem State.withCfg_ie (s : State) (x : ConfigRegs) : (s.withCfg x).ie = s.ie := rfl
@[simp] theorem State.withCfg_outN (s : State) (x : ConfigRegs) : (s.withCfg x).outN = s.outN := rfl
@[simp] theorem State.withCfg_ports (s : State) (x : ConfigRegs) : (s.withCfg x).ports = s.ports := rfl
@[simp] theorem State.withCfg_stim (s : State) (x : ConfigRegs) : (s.withCfg x).stim = s.stim := rfl
@[simp] theorem State.withCfg_ret (s : State) (x : ConfigRegs) : (s.withCfg x).ret = s.ret := rfl
@[simp] theorem State.withCfg_params (s : State) (x : ConfigRegs) : (s.withCfg x).params = s.params := rfl
@[simp] theorem State.withCfg_now (s : State) (x : ConfigRegs) : (s.withCfg x).now = s.now := rfl
@[simp] theorem State.withCfg_self (s : State) : s.withCfg s.cfg = s := rfl

/-! `withIe` -/

@[simp] theorem State.withIe_clk (s : State) (x : Bool) : (s.withIe x).clk = s.clk := rfl
@[simp] theorem State.withIe_deb (s : State) (x : Bool) : (s.withIe x).deb = s.deb := rfl
@[simp] theorem State.withIe_smp (s : State) (x : Bool) : (s.withIe x).smp = s.smp := rfl
@[simp] theorem State.withIe_dec (s : State) (x : Bool) : (s.withIe x).dec = s.dec := rfl
@[simp] theorem State.withIe_cfg (s : State) (x : Bool) : (s.withIe x).cfg = s.cfg := rfl
@[simp] theorem State.withIe_ie (s : State) (x : Bool) : (s.withIe x).ie = x := rfl
@[simp] theorem State.withIe_outN (s : State) (x : Bool) : (s.withIe x).outN = s.outN := rfl
@[simp] theorem State.withIe_ports (s : State) (x : Bool) : (s.withIe x).ports = s.ports := rfl
@[simp] theorem State.withIe_stim (s : State) (x : Bool) : (s.withIe x).stim = s.stim := rfl
@[simp] theorem State.withIe_ret (s : State) (x : Bool) : (s.withIe x).ret = s.ret := rfl
@[simp] theorem State.withIe_params (s : State) (x : Bool) : (s.withIe x).params = s.params := rfl
@[simp] theorem State.withIe_now (s : State) (x : Bool) : (s.withIe x).now = s.now := rfl
@[simp] theorem State.withIe_authorized (s : State) (x : Bool) :
    (s.withIe x).authorized = s.authorized := rfl
@[simp] theorem State.withIe_self (s : State) : s.withIe s.ie = s := rfl

/-! `withOutN` -/

@[simp] theorem State.withOutN_clk (s : State) (x : Level) : (s.withOutN x).clk = s.clk := rfl
@[simp] theorem State.withOutN_deb (s : State) (x : Level) : (s.withOutN x).deb = s.deb := rfl
@[simp] theorem State.withOutN_smp (s : State) (x : Level) : (s.withOutN x).smp = s.smp := rfl
@[simp] theorem State.withOutN_dec (s : State) (x : Level) : (s.withOutN x).dec = s.dec := rfl
@[simp] theorem State.withOutN_cfg (s : State) (x : Level) : (s.withOutN x).cfg = s.cfg := rfl
@[simp] theorem State.withOutN_ie (s : State) (x : Level) : (s.withOutN x).ie = s.ie := rfl
@[simp] theorem State.withOutN_outN (s : State) (x : Level) : (s.withOutN x).outN = x := rfl
@[simp] theorem State.withOutN_ports (s : State) (x : Level) : (s.withOutN x).ports = s.ports := rfl
@[simp] theorem State.withOutN_stim (s : State) (x : Level) : (s.withOutN x).stim = s.stim := rfl
@[simp] theorem State.withOutN_ret (s : State) (x : Level) : (s.withOutN x).ret = s.ret := rfl
@[simp] theorem State.withOutN_params (s : State) (x : Level) : (s.withOutN x).params = s.params := rfl
@[simp] theorem State.withOutN_now (s : State) (x : Level) : (s.withOutN x).now = s.now := rfl
@[simp] theorem State.withOutN_authorized (s : State) (x : Level) :
    (s.withOutN x).authorized = s.authorized := rfl
@[simp] theorem State.withOutN_self (s : State) : s.withOutN s.outN = s := rfl

/-! `withPorts` -/

@[simp] theorem State.withPorts_clk (s : State) (x : Ports) : (s.withPorts x).clk = s.clk := rfl
@[simp] theorem State.withPorts_deb (s : State) (x : Ports) : (s.withPorts x).deb = s.deb := rfl
@[simp] theorem State.withPorts_smp (s : State) (x : Ports) : (s.withPorts x).smp = s.smp := rfl
@[simp] theorem State.withPorts_dec (s : State) (x : Ports) : (s.withPorts x).dec = s.dec := rfl
@[simp] theorem State.withPorts_cfg (s : State) (x : Ports) : (s.withPorts x).cfg = s.cfg := rfl
@[simp] theorem State.withPorts_ie (s : State) (x : Ports) : (s.withPorts x).ie = s.ie := rfl
@[simp] theorem State.withPorts_outN (s : State) (x : Ports) : (s.withPorts x).outN = s.outN := rfl
@[simp] theorem State.withPorts_ports (s : State) (x : Ports) : (s.withPorts x).ports = x := rfl
@[simp] theorem State.withPorts_stim (s : State) (x : Ports) : (s.withPorts x).stim = s.stim := rfl
@[simp] theorem State.withPorts_ret (s : State) (x : Ports) : (s.withPorts x).ret = s.ret := rfl
@[simp] theorem State.withPorts_params (s : State) (x : Ports) : (s.withPorts x).params = s.params := rfl
@[simp] theorem State.withPorts_now (s : State) (x : Ports) : (s.withPorts x).now = s.now := rfl
@[simp] theorem State.withPorts_authorized (s : State) (x : Ports) :
    (s.withPorts x).authorized = s.authorized := rfl
@[simp] theorem State.withPorts_self (s : State) : s.withPorts s.ports = s := rfl

/-! `withStim` -/

@[simp] theorem State.withStim_clk (s : State) (x : List Stim) : (s.withStim x).clk = s.clk := rfl
@[simp] theorem State.withStim_deb (s : State) (x : List Stim) : (s.withStim x).deb = s.deb := rfl
@[simp] theorem State.withStim_smp (s : State) (x : List Stim) : (s.withStim x).smp = s.smp := rfl
@[simp] theorem State.withStim_dec (s : State) (x : List Stim) : (s.withStim x).dec = s.dec := rfl
@[simp] theorem State.withStim_cfg (s : State) (x : List Stim) : (s.withStim x).cfg = s.cfg := rfl
@[simp] theorem State.withStim_ie (s : State) (x : List Stim) : (s.withStim x).ie = s.ie := rfl
@[simp] theorem State.withStim_outN (s : State) (x : List Stim) : (s.withStim x).outN = s.outN := rfl
@[simp] theorem State.withStim_ports (s : State) (x : List Stim) : (s.withStim x).ports = s.ports := rfl
@[simp] theorem State.withStim_stim (s : State) (x : List Stim) : (s.withStim x).stim = x := rfl
@[simp] theorem State.withStim_ret (s : State) (x : List Stim) : (s.withStim x).ret = s.ret := rfl
@[simp] theorem State.withStim_params (s : State) (x : List Stim) : (s.withStim x).params = s.params := rfl
@[simp] theorem State.withStim_now (s : State) (x : List Stim) : (s.withStim x).now = s.now := rfl
@[simp] theorem State.withStim_authorized (s : State) (x : List Stim) :
    (s.withStim x).authorized = s.authorized := rfl
@[simp] theorem State.withStim_self (s : State) : s.withStim s.stim = s := rfl

/-! `withRet` -/

@[simp] theorem State.withRet_clk (s : State) (x : ReturnValue) : (s.withRet x).clk = s.clk := rfl
@[simp] theorem State.withRet_deb (s : State) (x : ReturnValue) : (s.withRet x).deb = s.deb := rfl
@[simp] theorem State.withRet_smp (s : State) (x : ReturnValue) : (s.withRet x).smp = s.smp := rfl
@[simp] theorem State.withRet_dec (s : State) (x : ReturnValue) : (s.withRet x).dec = s.dec := rfl
@[simp] theorem State.withRet_cfg (s : State) (x : ReturnValue) : (s.withRet x).cfg = s.cfg := rfl
@[simp] theorem State.withRet_ie (s : State) (x : ReturnValue) : (s.withRet x).ie = s.ie := rfl
@[simp] theorem State.withRet_outN (s : State) (x : ReturnValue) : (s.withRet x).outN = s.outN := rfl
@[simp] theorem State.withRet_ports (s : State) (x : ReturnValue) : (s.withRet x).ports = s.ports := rfl
@[simp] theorem State.withRet_stim (s : State) (x : ReturnValue) : (s.withRet x).stim = s.stim := rfl
@[simp] theorem State.withRet_ret (s : State) (x : ReturnValue) : (s.withRet x).ret = x := rfl
@[simp] theorem State.withRet_params (s : State) (x : ReturnValue) : (s.withRet x).params = s.params := rfl
@[simp] theorem State.withRet_now (s : State) (x : ReturnValue) : (s.withRet x).now = s.now := rfl
@[simp] theorem State.withRet_authorized (s : State) (x : ReturnValue) :
    (s.withRet x).authorized = s.authorized := rfl
@[simp] theorem State.withRet_self (s : State) : s.withRet s.ret = s := rfl

end Sys2Proof.Machine
end

