-- ==== Sys2Proof/Laws/Exec.lean ====
section
/-! SUPPORT. What each arm of `exec` is, over the shared operations, and how a list of operations is
applied. -/

namespace Sys2Proof.Machine

section Arms

variable (s : State) (m : Mode) (d : Duration) (lvl : Level)

@[simp] theorem exec_clkTick : exec .clkTick s = .next (s.withClk s.clk.tick) := rfl
@[simp] theorem exec_clkOvf :
    exec .clkOvf s = .next (if s.ie && s.clk.ovfFlag then s.withClk s.clk.countOverflow else s) := rfl
@[simp] theorem exec_clkNow : exec .clkNow s = .next (s.withRet (.tick s.now)) := rfl
@[simp] theorem exec_debEdge :
    exec (.debEdge lvl) s = .next (applyHandler (DebouncerRegs.onEdge s.params s.now lvl) s) := rfl
@[simp] theorem exec_debSettle : exec .debSettle s = .next (applyHandler DebouncerRegs.onSettle s) := rfl
@[simp] theorem exec_debConfirm :
    exec (.debConfirm lvl) s =
      .next (applyHandler (DebouncerRegs.onConfirm s.params s.now lvl) s) := rfl
@[simp] theorem exec_smpPoll : exec .smpPoll s = .next (poll s) := rfl
@[simp] theorem exec_decStep : exec (.decStep m d) s = .next (decoderStep m d s) := rfl
@[simp] theorem exec_outAuth : exec .outAuth s = .next (s.withRet (.authorized s.authorized)) := rfl
@[simp] theorem exec_outDrive : exec .outDrive s = .next (driveOutput s) := rfl
@[simp] theorem exec_topCycle : exec (.topCycle lvl) s = .next (cycle lvl s) := rfl
@[simp] theorem exec_sysReset (mask : BitVec 7) (id : BitVec 8) :
    exec (.sysReset lvl mask id) s =
      if refusesId s.params id then .refused .reservedDeviceId
      else .next (resetRegisters lvl mask id s) := rfl
@[simp] theorem exec_sysCfgload (mask : BitVec 7) (id : BitVec 8) :
    exec (.sysCfgload mask id) s =
      if refusesId s.params id then .refused .reservedDeviceId
      else .next (s.withCfg (latchConfig mask id)) := rfl
@[simp] theorem exec_sysCli :
    exec .sysCli s = .next ((s.withIe false).withRet (.savedIe s.ie)) := rfl
@[simp] theorem exec_sysRestore (saved : Bool) :
    exec (.sysRestore saved) s = .next (s.withIe saved) := rfl
@[simp] theorem exec_sysDiag (value : BitVec 32) :
    exec (.sysDiag value) s = .refused .diagnosticPath := rfl
@[simp] theorem exec_decGap :
    exec (.decGap d) s = .next (applyRule (.decGap d) DecoderRegs.forceIdle s) := rfl
@[simp] theorem exec_decIdleLead :
    exec (.decIdleLead d) s = .next (applyRule (.decIdleLead d) DecoderRegs.enterHeader s) := rfl
@[simp] theorem exec_decIdleNop :
    exec (.decIdleNop m d) s = .next (applyRule (.decIdleNop m d) id s) := rfl
@[simp] theorem exec_decHdrCount :
    exec (.decHdrCount m d) s = .next (applyRule (.decHdrCount m d) DecoderRegs.count s) := rfl
@[simp] theorem exec_decHdrParity :
    exec (.decHdrParity m d) s =
      .next (applyRule (.decHdrParity m d) (DecoderRegs.abandon .parity) s) := rfl
@[simp] theorem exec_decHdrSync :
    exec (.decHdrSync m d) s = .next (applyRule (.decHdrSync m d)
      (fun r => if inRange d s.params.tSync then r else r.abandon .tolerance) s) := rfl
@[simp] theorem exec_decHdrBitp :
    exec (.decHdrBitp d) s = .next (applyRule (.decHdrBitp d)
      (fun r => if inRange d s.params.tBitp then r else r.abandon .tolerance) s) := rfl
@[simp] theorem exec_decHdrResync :
    exec (.decHdrResync d) s = .next (applyRule (.decHdrResync d) DecoderRegs.restartAddress s) := rfl
@[simp] theorem exec_decHdrBit0 :
    exec (.decHdrBit0 d) s = .next (applyRule (.decHdrBit0 d) (DecoderRegs.shiftBit false) s) := rfl
@[simp] theorem exec_decHdrBit1 :
    exec (.decHdrBit1 d) s = .next (applyRule (.decHdrBit1 d) (DecoderRegs.shiftBit true) s) := rfl
@[simp] theorem exec_decHdrBadbit :
    exec (.decHdrBadbit d) s =
      .next (applyRule (.decHdrBadbit d) (DecoderRegs.abandon .tolerance) s) := rfl
@[simp] theorem exec_decHdrDone :
    exec (.decHdrDone d) s =
      .next (applyRule (.decHdrDone d) (DecoderRegs.conclude s.cfg) s) := rfl
@[simp] theorem exec_decBypass :
    exec (.decBypass m d) s = .next (applyRule (.decBypass m d) id s) := rfl
@[simp] theorem exec_decPass : exec (.decPass m d) s = .next (applyRule (.decPass m d) id s) := rfl

end Arms

/-- Only `SYS.DIAG` and the loading of a reserved device id stop; every other operation answers a next
state, in every state. -/
theorem exec_next_or_refused (i : Instr) (s : State) :
    (∃ t, exec i s = .next t) ∨ ∃ r, exec i s = .refused r := by
  cases i <;> simp only [exec_clkTick, exec_clkOvf, exec_clkNow, exec_debEdge, exec_debSettle,
    exec_debConfirm, exec_smpPoll, exec_decStep, exec_outAuth, exec_outDrive, exec_topCycle,
    exec_sysReset, exec_sysCfgload, exec_sysCli, exec_sysRestore, exec_sysDiag, exec_decGap,
    exec_decIdleLead, exec_decIdleNop, exec_decHdrCount, exec_decHdrParity, exec_decHdrSync,
    exec_decHdrBitp, exec_decHdrResync, exec_decHdrBit0, exec_decHdrBit1, exec_decHdrBadbit,
    exec_decHdrDone, exec_decBypass, exec_decPass]
  case sysReset lvl mask id => split <;> simp
  case sysCfgload mask id => split <;> simp
  all_goals simp

@[simp] theorem execAll_nil (s : State) : execAll [] s = .next s := rfl

/-- An operation that answers a next state hands it to the rest. -/
theorem execAll_cons_of_next {i : Instr} {s t : State} (rest : List Instr)
    (h : exec i (present i s) = .next t) : execAll (i :: rest) s = execAll rest t := by
  simp [execAll, h]

/-- One operation alone is `exec` of it on the ports as its word drives them. -/
theorem execAll_singleton (i : Instr) (s : State) : execAll [i] s = exec i (present i s) := by
  cases h : exec i (present i s) <;> simp [execAll, h]

/-- Operations applied one after the other. -/
theorem execAll_append (is js : List Instr) (s t : State) (h : execAll is s = .next t) :
    execAll (is ++ js) s = execAll js t := by
  induction is generalizing s with
  | nil =>
    simp only [execAll_nil, Host.Outcome.next.injEq] at h
    simp [h]
  | cons i is ih =>
    cases hi : exec i (present i s) with
    | next u =>
      simp only [execAll, hi] at h
      simpa [execAll, hi] using ih u h
    | fault f => simp [execAll, hi] at h
    | refused r => simp [execAll, hi] at h

/-- With `rst = 0` every operation is applied as it is. -/
theorem underReset_of_low {p : Ports} (h : p.rst = false) (i : Instr) : underReset p i = i := by
  cases i <;> simp [underReset, h]

/-- R212: with `rst = 1` a cycle is replaced by a reset. -/
theorem underReset_topCycle_of_high {p : Ports} (h : p.rst = true) (lvl : Level) :
    underReset p (.topCycle lvl) = .sysReset lvl p.cfgMaskIn p.cfgIdIn := by simp [underReset, h]

/-- Only a cycle is replaced, whatever `rst` is. -/
theorem underReset_of_not_topCycle (p : Ports) {i : Instr} (h : ∀ lvl, i ≠ .topCycle lvl) :
    underReset p i = i := by
  cases i <;> first | rfl | exact absurd rfl (h _)

/-- A decoder rule is applied as it is, whatever `rst` is. -/
theorem underReset_rule (p : Ports) {i : Instr} (h : (ruleInterval i).isSome = true) :
    underReset p i = i := by
  cases i <;> first | rfl | simp [ruleInterval] at h

/-- A decoder rule drives no port. -/
theorem present_rule (i : Instr) (s : State) (h : (ruleInterval i).isSome = true) :
    present i s = s := by
  cases i <;> first | rfl | simp [ruleInterval] at h

/-- Driving the ports touches nothing but the ports. -/
theorem present_eq (i : Instr) (s : State) : present i s = s.withPorts (present i s).ports := by
  cases i <;> rfl

end Sys2Proof.Machine
end

