-- ==== Sys2Proof/Laws/Ops.lean ====
section
/-! SUPPORT. What the shared operations can do, once for each: the clock, the debouncer's handlers, an
interrupt source when its turn comes, a decoder step, a poll and a cycle. -/

namespace Sys2Proof.Machine

/-! ## The clock -/

/-- R94: servicing a pending overflow does not move the Tick. -/
theorem ClockRegs.now_countOverflow (c : ClockRegs) (h : c.ovfFlag = true) :
    c.countOverflow.now = c.now := by
  simp [ClockRegs.now, ClockRegs.countOverflow, tickOfParts, h]

/-- The Tick as a number (R93). -/
theorem ClockRegs.toNat_now (c : ClockRegs) :
    c.now.toNat = (c.ovfCount.toNat + c.ovfFlag.toNat) % 2 ^ 24 * 256 + c.cnt8.toNat := by
  have h8 := c.cnt8.isLt
  have key : ∀ x : BitVec 24, (x ++ c.cnt8).toNat = x.toNat * 256 + c.cnt8.toNat := by
    intro x
    rw [BitVec.toNat_append, ← Nat.shiftLeft_add_eq_or_of_lt h8, Nat.shiftLeft_eq]
  have h24 := c.ovfCount.isLt
  cases hf : c.ovfFlag <;> simp [ClockRegs.now, tickOfParts, hf, key]
  omega

/-- R90: the wrap is from 255. -/
theorem cnt8_wraps_iff (x : BitVec 8) : x + 1 = 0 ↔ x = 255 := by
  constructor
  · intro h
    have := congrArg BitVec.toNat h
    have hx := x.isLt
    apply BitVec.eq_of_toNat_eq
    simp at this ⊢
    omega
  · rintro rfl
    rfl

/-- R94: with no overflow pending, `CLK.TICK` moves the Tick by exactly 1. -/
theorem ClockRegs.now_tick (c : ClockRegs) (h : c.ovfFlag = false) : c.tick.now = c.now + 1 := by
  have h8 := c.cnt8.isLt
  have h24 := c.ovfCount.isLt
  have hflag : c.tick.ovfFlag = decide (c.cnt8 = 255) := by
    simp only [ClockRegs.tick, h, Bool.false_or, cnt8_wraps_iff]
  have hcnt : c.tick.cnt8.toNat = (c.cnt8.toNat + 1) % 256 := by simp [ClockRegs.tick]
  have hovf : c.tick.ovfCount = c.ovfCount := rfl
  apply BitVec.eq_of_toNat_eq
  rw [ClockRegs.toNat_now, BitVec.toNat_add, ClockRegs.toNat_now, hflag, hcnt, hovf, h]
  by_cases hc : c.cnt8 = 255
  · simp [hc]
    omega
  · have hv : c.cnt8.toNat ≠ 255 := fun hv => hc (BitVec.eq_of_toNat_eq hv)
    rw [decide_eq_false hc]
    simp
    omega

/-! ## The debouncer -/

/-- R103: an edge always arms the confirm deadline and records the level. -/
@[simp] theorem DebouncerRegs.onEdge_confirm (P : Params) (now : Tick) (lvl : Level)
    (r : DebouncerRegs) :
    (r.onEdge P now lvl).confirm = { armed := true, due := deadlineFrom P now } := rfl

@[simp] theorem DebouncerRegs.onEdge_lastLevel (P : Params) (now : Tick) (lvl : Level)
    (r : DebouncerRegs) : (r.onEdge P now lvl).lastLevel = lvl := rfl

/-- R103: what the edge handler can do to `act` and the settle deadline. -/
theorem DebouncerRegs.onEdge_cases (P : Params) (now : Tick) (lvl : Level) (r : DebouncerRegs) :
    (r.act = .inactive ∧ (r.onEdge P now lvl).act = .waiting ∧
      (r.onEdge P now lvl).settle = { armed := true, due := deadlineFrom P now }) ∨
    (r.act ≠ .inactive ∧ (r.onEdge P now lvl).act = r.act ∧
      (r.onEdge P now lvl).settle = r.settle) := by
  by_cases h : r.act = .inactive
  · exact .inl ⟨h, by simp [DebouncerRegs.onEdge, h], by simp [DebouncerRegs.onEdge, h, Deadline.arm]⟩
  · exact .inr ⟨h, by simp [DebouncerRegs.onEdge, h], by simp [DebouncerRegs.onEdge, h]⟩

@[simp] theorem DebouncerRegs.onEdge_pinPrev (P : Params) (now : Tick) (lvl : Level)
    (r : DebouncerRegs) : (r.onEdge P now lvl).pinPrev = r.pinPrev := by
  by_cases h : r.act = .inactive <;> simp [DebouncerRegs.onEdge, h]

/-- R105, the stable branch. -/
theorem DebouncerRegs.onConfirm_stable (P : Params) (now : Tick) (r : DebouncerRegs) :
    r.onConfirm P now r.lastLevel =
      { r with act := .inactive, settle := r.settle.disarm, confirm := r.confirm.disarm } := by
  simp [DebouncerRegs.onConfirm]

/-! ## Interrupts -/

/-- R188: a source when its turn comes is taken or leaves the state as it is. -/
theorem serviceSource_cases (lvl : Level) (s : State) (src : IrqSource) :
    (s.ie = true ∧ raised src lvl s = true ∧ serviceSource lvl s src = takeInterrupt src lvl s) ∨
    ((s.ie = false ∨ raised src lvl s = false) ∧ serviceSource lvl s src = s) := by
  unfold serviceSource
  cases s.ie <;> cases raised src lvl s <;> simp

/-- R58, R189: taking an interrupt writes the clock's or the debouncer's registers and nothing else. -/
theorem takeInterrupt_frame (src : IrqSource) (lvl : Level) (s : State) :
    takeInterrupt src lvl s =
      (s.withClk (takeInterrupt src lvl s).clk).withDeb (takeInterrupt src lvl s).deb := by
  cases src <;> rfl

/-- R58 for one source. -/
theorem serviceSource_frame (lvl : Level) (s : State) (src : IrqSource) :
    serviceSource lvl s src =
      (s.withClk (serviceSource lvl s src).clk).withDeb (serviceSource lvl s src).deb := by
  rcases serviceSource_cases lvl s src with ⟨-, -, h⟩ | ⟨-, h⟩ <;> rw [h]
  · exact takeInterrupt_frame src lvl s
  · rfl

/-- The dispatch written out: the four sources in priority order (R188). -/
theorem serviceInterrupts_eq (lvl : Level) (s : State) :
    serviceInterrupts lvl s =
      serviceSource lvl (serviceSource lvl (serviceSource lvl (serviceSource lvl s .pinChange)
        .settleCompare) .confirmCompare) .overflow := rfl

/-- R58: the four handlers together write the clock and the debouncer alone. -/
theorem serviceInterrupts_frame (lvl : Level) (s : State) :
    serviceInterrupts lvl s =
      (s.withClk (serviceInterrupts lvl s).clk).withDeb (serviceInterrupts lvl s).deb := by
  have step : ∀ u v : State, ∀ src, v = (s.withClk u.clk).withDeb u.deb →
      serviceSource lvl v src = (s.withClk (serviceSource lvl v src).clk).withDeb
        (serviceSource lvl v src).deb := by
    intro u v src h
    subst h
    exact serviceSource_frame lvl _ src
  rw [serviceInterrupts_eq]
  have h1 := step s s .pinChange rfl
  have h2 := step _ _ .settleCompare h1
  have h3 := step _ _ .confirmCompare h2
  exact step _ _ .overflow h3

/-- R191: with `ie = 0` no source is taken. -/
theorem serviceInterrupts_masked (lvl : Level) (s : State) (h : s.ie = false) :
    serviceInterrupts lvl s = s := by
  simp [serviceInterrupts, irqPriority, serviceSource, h]

/-! ## The decoder -/

/-- A rule of R72's table is applied where it is selected and not elsewhere. -/
theorem applyRule_of_selected {i : Instr} {s : State} (f : DecoderRegs → DecoderRegs)
    (h : ruleSelected s.params s.dec.decState s.dec.hdrCnt i = true) :
    applyRule i f s = s.withDec (f s.dec) := by simp [applyRule, h]

theorem applyRule_of_not_selected {i : Instr} {s : State} (f : DecoderRegs → DecoderRegs)
    (h : ruleSelected s.params s.dec.decState s.dec.hdrCnt i = false) :
    applyRule i f s = s := by simp [applyRule, h]

/-- What the HEADER arm of R125 can do to the registers after the increment. -/
theorem DecoderRegs.headerArm_cases (P : Params) (cfg : ConfigRegs) (m : Mode) (d : Duration)
    (r : DecoderRegs) :
    (r.headerArm P cfg m d = { r with decState := .bypass }) ∨
    (m = requiredMode r.hdrCnt ∧ r.headerArm P cfg m d = r ∧ r.hdrCnt ≠ hdrTotal) ∨
    (m = .pulse ∧ isResyncPosition r.hdrCnt = true ∧
      r.headerArm P cfg m d = { r with addrAcc := 0 }) ∨
    (m = .pulse ∧ r.hdrCnt = hdrTotal ∧ r.headerArm P cfg m d = r.conclude cfg) ∨
    (m = .space ∧ requiredMode r.hdrCnt = .space ∧ ∃ b, r.headerArm P cfg m d = r.shiftBit b) := by
  have hsync : isSyncPosition hdrTotal = false := by decide
  unfold DecoderRegs.headerArm
  by_cases hm : m = requiredMode r.hdrCnt
  · by_cases hs : isSyncPosition r.hdrCnt = true
    · by_cases hr : inRange d P.tSync = true
      · refine .inr (.inl ⟨hm, by simp [← hm, hs, hr], ?_⟩)
        intro h
        rw [h, hsync] at hs
        cases hs
      · exact .inl (by simp [← hm, hs, hr, DecoderRegs.abandon])
    · cases m with
      | pulse =>
        by_cases hr : inRange d P.tBitp = true
        · by_cases hp : isResyncPosition r.hdrCnt = true
          · exact .inr (.inr (.inl ⟨rfl, hp, by simp [← hm, hs, hr, hp, DecoderRegs.restartAddress]⟩))
          · by_cases ht : r.hdrCnt = hdrTotal
            · exact .inr (.inr (.inr (.inl ⟨rfl, ht, by
                rw [if_neg (by simp [← hm]), if_neg hs, if_neg (by simp [hr]), if_neg hp,
                  if_pos ht]⟩)))
            · exact .inr (.inl ⟨hm, by simp [← hm, hs, hr, hp, ht], ht⟩)
        · exact .inl (by simp [← hm, hs, hr, DecoderRegs.abandon])
      | space =>
        by_cases hz : inRange d P.tZero = true
        · exact .inr (.inr (.inr (.inr ⟨rfl, hm.symm, false, by simp [← hm, hs, hz]⟩)))
        · by_cases ho : inRange d P.tOne = true
          · exact .inr (.inr (.inr (.inr ⟨rfl, hm.symm, true, by simp [← hm, hs, hz, ho]⟩)))
          · exact .inl (by simp [← hm, hs, hz, ho, DecoderRegs.abandon])
  · exact .inl (by simp [hm, DecoderRegs.abandon])

/-- R125: what a decoder step can do, by the state it starts in. -/
theorem DecoderRegs.step_cases (P : Params) (cfg : ConfigRegs) (m : Mode) (d : Duration)
    (r : DecoderRegs) :
    (isGapInterval P m d = true ∧ r.step P cfg m d = r.forceIdle) ∨
    (isGapInterval P m d = false ∧ r.decState = .idle ∧ isLeadInterval P m d = true ∧
      r.step P cfg m d = r.enterHeader) ∨
    (isGapInterval P m d = false ∧ r.decState = .idle ∧ isLeadInterval P m d = false ∧
      r.step P cfg m d = r) ∨
    (isGapInterval P m d = false ∧ r.decState = .header ∧
      r.step P cfg m d = r.count.headerArm P cfg m d) ∨
    (isGapInterval P m d = false ∧ (r.decState = .bypass ∨ r.decState = .passthrough) ∧
      r.step P cfg m d = r) := by
  cases hg : isGapInterval P m d with
  | true =>
    have hm : isLeadInterval P m d = false := by
      cases m <;> simp_all [isGapInterval, isLeadInterval]
    exact .inl ⟨rfl, by simp [DecoderRegs.step, hg, DecoderRegs.forceIdle, hm]⟩
  | false =>
    cases hst : r.decState with
    | idle =>
      cases hl : isLeadInterval P m d with
      | true => exact .inr (.inl ⟨rfl, rfl, rfl, by simp [DecoderRegs.step, hg, hst, hl]⟩)
      | false => exact .inr (.inr (.inl ⟨rfl, rfl, rfl, by simp [DecoderRegs.step, hg, hst, hl]⟩))
    | header =>
      exact .inr (.inr (.inr (.inl ⟨rfl, rfl, by simp [DecoderRegs.step, hg, hst]⟩)))
    | bypass =>
      exact .inr (.inr (.inr (.inr ⟨rfl, .inl rfl, by simp [DecoderRegs.step, hg, hst]⟩)))
    | passthrough =>
      exact .inr (.inr (.inr (.inr ⟨rfl, .inr rfl, by simp [DecoderRegs.step, hg, hst]⟩)))

/-! ## The poll and the cycle -/

/-- R117: what a poll can do. -/
theorem poll_cases (s : State) :
    (modeOf s.deb.act = s.smp.curMode ∧ poll s = s) ∨
    (modeOf s.deb.act ≠ s.smp.curMode ∧
      poll s = driveOutput (decoderStep s.smp.curMode (s.now - s.smp.lastChange)
        (s.withSmp { curMode := modeOf s.deb.act, lastChange := s.now }))) := by
  by_cases h : modeOf s.deb.act = s.smp.curMode
  · exact .inl ⟨h, by simp [poll, h]⟩
  · exact .inr ⟨h, by simp [poll, h]⟩

/-- R41: a poll writes the sampler, the decoder and the output alone. -/
theorem poll_frame (s : State) :
    poll s = ((s.withSmp (poll s).smp).withDec (poll s).dec).withOutN (poll s).outN := by
  rcases poll_cases s with ⟨-, h⟩ | ⟨-, h⟩ <;> rw [h] <;> rfl

/-- R41: a cycle writes the registers of its agents and nothing else. -/
theorem cycle_frame (lvl : Level) (s : State) :
    cycle lvl s = { s with
      clk := (cycle lvl s).clk, deb := (cycle lvl s).deb, smp := (cycle lvl s).smp
      dec := (cycle lvl s).dec, outN := (cycle lvl s).outN } := by
  unfold cycle
  rw [poll_frame, serviceInterrupts_frame]
  rfl

end Sys2Proof.Machine
end

