-- ==== Sys2Proof/Laws/PerInstr.lean ====
section
/-! SUPPORT. Facts about every instruction as syntax, one lemma per constructor. `EncodeFits`: the word
of an instruction has no bit outside the formats of 30_encoding.md R63, R64 and R70. -/

namespace Sys2Proof.Laws

open Sys2Proof.Machine

/-- The padding of a stimulus word is 0 where the formats have no bits. -/
def wordFits : Stim → Prop
  | .event ev operand => ev.toNat < 2 ^ 5 ∧ operand.toNat < 2 ^ 33
  | .interval iv => iv.toNat < 2 ^ 33

/-- The event byte has 5 bits (R70). -/
theorem eventByte_lt (op : BitVec 4) (lvl : Level) : (eventByte op lvl).toNat < 2 ^ 5 := by
  revert op
  cases lvl <;> decide

/-- A word of at most 33 bits, in 5 bytes. -/
theorem setWidth_lt {n : Nat} (w : BitVec n) (h : n ≤ 33) : (w.setWidth 40).toNat < 2 ^ 33 :=
  calc (w.setWidth 40).toNat ≤ w.toNat := by
        rw [BitVec.toNat_setWidth]
        exact Nat.mod_le _ _
    _ < 2 ^ n := w.isLt
    _ ≤ 2 ^ 33 := Nat.pow_le_pow_right (by decide) h

/-- An event word with no operand fits. -/
theorem eventWord_fits (op : BitVec 4) (lvl : Level) : wordFits (.event (eventByte op lvl) 0) :=
  ⟨eventByte_lt op lvl, by decide⟩

/-- An event word with an operand of at most 33 bits fits. -/
theorem eventWord_operand_fits {n : Nat} (op : BitVec 4) (lvl : Level) (w : BitVec n) (h : n ≤ 33) :
    wordFits (.event (eventByte op lvl) (w.setWidth 40)) :=
  ⟨eventByte_lt op lvl, setWidth_lt w h⟩

/-- An Interval word fits (R63). -/
theorem encodeInterval_fits (m : Mode) (d : Duration) : wordFits (encodeInterval m d) :=
  setWidth_lt (intervalWord m d) (Nat.le_refl 33)

namespace EncodeFits

/-- The word of the instruction fits its format. -/
def Statement (i : Instr) : Prop := wordFits (encode i)

theorem clkTick : Statement .clkTick := eventWord_fits _ _
theorem debEdge (lvl : Level) : Statement (.debEdge lvl) := eventWord_fits _ _
theorem debSettle : Statement .debSettle := eventWord_fits _ _
theorem debConfirm (lvl : Level) : Statement (.debConfirm lvl) := eventWord_fits _ _
theorem clkOvf : Statement .clkOvf := eventWord_fits _ _
theorem clkNow : Statement .clkNow := eventWord_fits _ _
theorem smpPoll : Statement .smpPoll := eventWord_fits _ _
theorem decStep (m : Mode) (d : Duration) : Statement (.decStep m d) :=
  eventWord_operand_fits _ _ _ (by decide)
theorem outAuth : Statement .outAuth := eventWord_fits _ _
theorem outDrive : Statement .outDrive := eventWord_fits _ _
theorem topCycle (lvl : Level) : Statement (.topCycle lvl) := eventWord_fits _ _
theorem sysReset (lvl : Level) (mask : BitVec 7) (id : BitVec 8) :
    Statement (.sysReset lvl mask id) := eventWord_operand_fits _ _ _ (by decide)
theorem sysCfgload (mask : BitVec 7) (id : BitVec 8) : Statement (.sysCfgload mask id) :=
  eventWord_operand_fits _ _ _ (by decide)
theorem sysCli : Statement .sysCli := eventWord_fits _ _
theorem sysRestore (saved : Bool) : Statement (.sysRestore saved) :=
  eventWord_operand_fits _ _ _ (by decide)
theorem sysDiag (value : BitVec 32) : Statement (.sysDiag value) :=
  eventWord_operand_fits _ _ _ (by decide)
theorem decGap (d : Duration) : Statement (.decGap d) := encodeInterval_fits _ _
theorem decIdleLead (d : Duration) : Statement (.decIdleLead d) := encodeInterval_fits _ _
theorem decIdleNop (m : Mode) (d : Duration) : Statement (.decIdleNop m d) := encodeInterval_fits _ _
theorem decHdrCount (m : Mode) (d : Duration) : Statement (.decHdrCount m d) :=
  encodeInterval_fits _ _
theorem decHdrParity (m : Mode) (d : Duration) : Statement (.decHdrParity m d) :=
  encodeInterval_fits _ _
theorem decHdrSync (m : Mode) (d : Duration) : Statement (.decHdrSync m d) := encodeInterval_fits _ _
theorem decHdrBitp (d : Duration) : Statement (.decHdrBitp d) := encodeInterval_fits _ _
theorem decHdrResync (d : Duration) : Statement (.decHdrResync d) := encodeInterval_fits _ _
theorem decHdrBit0 (d : Duration) : Statement (.decHdrBit0 d) := encodeInterval_fits _ _
theorem decHdrBit1 (d : Duration) : Statement (.decHdrBit1 d) := encodeInterval_fits _ _
theorem decHdrBadbit (d : Duration) : Statement (.decHdrBadbit d) := encodeInterval_fits _ _
theorem decHdrDone (d : Duration) : Statement (.decHdrDone d) := encodeInterval_fits _ _
theorem decBypass (m : Mode) (d : Duration) : Statement (.decBypass m d) := encodeInterval_fits _ _
theorem decPass (m : Mode) (d : Duration) : Statement (.decPass m d) := encodeInterval_fits _ _

end EncodeFits

end Sys2Proof.Laws
end

