-- ==== Sys2Proof/Tests/Slice0.lean ====
section
/-! SUPPORT. Tests of the model: the smoke test of WellFormed, words written out from the encoding
tables, one-step tests whose expected values are the vectors of 95_test_vectors.md (named in each
comment), and a witness for the hypotheses of every statement that has some. -/

namespace Sys2Proof.Tests

open Sys2Proof Sys2Proof.Machine

/-! ## Small states -/

/-- The next state, where there is one. -/
def nextOf (o : Host.Outcome State Fault Refusal) : Option State :=
  match o with
  | .next t => some t
  | .fault _ => none
  | .refused _ => none

/-- The refusal, where there is one. -/
def refusalOf (o : Host.Outcome State Fault Refusal) : Option Refusal :=
  match o with
  | .next _ => none
  | .fault _ => none
  | .refused r => some r

/-- Reset with other clock registers. -/
def atClock (cnt8 : BitVec 8) (flag : Bool) (count : BitVec 24) : State :=
  State.reset.withClk { cnt8 := cnt8, ovfFlag := flag, ovfCount := count }

/-- Reset with the decoder in `st` at `cnt` with `acc`. -/
def atDecoder (st : DecoderState) (cnt : BitVec 8) (acc : BitVec 16) : State :=
  State.reset.withDec { decState := st, hdrCnt := cnt, addrAcc := acc }

/-- Reset at Tick `{count, cnt8}` with the debouncer in `act`. -/
def atActivity (cnt8 : BitVec 8) (count : BitVec 24) (act : Activity) (settle confirm : Deadline)
    (lvl : Level) : State :=
  (atClock cnt8 false count).withDeb
    { act := act, settle := settle, confirm := confirm, lastLevel := lvl, pinPrev := lvl }

/-- Reset with the sampler at `{mode, change}`, the activity `act` and the Tick `{count, cnt8}`. -/
def atSampler (m : Mode) (change : Tick) (act : Activity) (cnt8 : BitVec 8) (count : BitVec 24) :
    State :=
  (atActivity cnt8 count act { armed := false, due := 0 } { armed := false, due := 0 } true).withSmp
    { curMode := m, lastChange := change }

/-- A deadline that is armed. -/
def armedAt (due : Tick) : Deadline := { armed := true, due := due }

/-- A deadline that is not. -/
def disarmedAt (due : Tick) : Deadline := { armed := false, due := due }

/-- The decoder's registers after `i`. -/
def decAfter (i : Instr) (s : State) : Option DecoderRegs := (nextOf (exec i s)).map (·.dec)

/-! ## WellFormed: an ill-formed term for each check -/

theorem test_wf_gap : (Instr.decGap 200000).wellFormed referenceParams = false := by decide
theorem test_wf_lead : (Instr.decIdleLead 3999).wellFormed referenceParams = false := by decide
theorem test_wf_idleNop : (Instr.decIdleNop .pulse 4000).wellFormed referenceParams = false := by decide
theorem test_wf_count : (Instr.decHdrCount .space 200001).wellFormed referenceParams = false := by decide
theorem test_wf_parity : (Instr.decHdrParity .space 200001).wellFormed referenceParams = false := by
  decide
theorem test_wf_sync : (Instr.decHdrSync .space 200001).wellFormed referenceParams = false := by decide
theorem test_wf_resync : (Instr.decHdrResync 301).wellFormed referenceParams = false := by decide
theorem test_wf_bit0_window : (Instr.decHdrBit0 199).wellFormed referenceParams = false := by decide
theorem test_wf_bit0_gap :
    (Instr.decHdrBit0 250).wellFormed { referenceParams with tGap := 249 } = false := by decide
theorem test_wf_bit1_window : (Instr.decHdrBit1 399).wellFormed referenceParams = false := by decide
theorem test_wf_bit1_zero :
    (Instr.decHdrBit1 500).wellFormed { referenceParams with tZero := 500 } = false := by decide
theorem test_wf_bit1_gap :
    (Instr.decHdrBit1 500).wellFormed { referenceParams with tGap := 499 } = false := by decide
theorem test_wf_badbit_zero : (Instr.decHdrBadbit 300).wellFormed referenceParams = false := by decide
theorem test_wf_badbit_one : (Instr.decHdrBadbit 400).wellFormed referenceParams = false := by decide
theorem test_wf_badbit_gap : (Instr.decHdrBadbit 200001).wellFormed referenceParams = false := by decide
theorem test_wf_done : (Instr.decHdrDone 199).wellFormed referenceParams = false := by decide
theorem test_wf_bypass : (Instr.decBypass .space 200001).wellFormed referenceParams = false := by decide
theorem test_wf_pass : (Instr.decPass .space 200001).wellFormed referenceParams = false := by decide

/-! ## Parameters (R3, R4) -/

theorem test_params_reference : paramsAtRate 1 1 .load = some referenceParams := by decide
theorem test_params_legal : paramsLegal referenceParams = true := by decide
/-- R4 (a): the windows of the two bit values must not meet. -/
theorem test_params_overlap : paramsLegal { referenceParams with tOne := 375 } = false := by decide
theorem test_params_outDelay : paramsLegal { referenceParams with outDelay := 256 } = false := by decide

/-! ## Decode: the words of R70, written out from its table -/

theorem test_word_clkTick : decodeTableWord 8 0b00000 = some .clkTick := by decide
theorem test_word_debEdge : decodeTableWord 8 0b00011 = some (.debEdge true) := by decide
theorem test_word_debSettle : decodeTableWord 8 0b00100 = some .debSettle := by decide
theorem test_word_debConfirm : decodeTableWord 8 0b00110 = some (.debConfirm false) := by decide
theorem test_word_clkOvf : decodeTableWord 8 0b01000 = some .clkOvf := by decide
theorem test_word_clkNow : decodeTableWord 8 0b01010 = some .clkNow := by decide
theorem test_word_smpPoll : decodeTableWord 8 0b01100 = some .smpPoll := by decide
/-- The operand is the Interval `P 5000`. -/
theorem test_word_decStep :
    decodeTableWord 48 (0b01110 + 0x100001388 * 2 ^ 8) = some (.decStep .pulse 5000) := by decide
theorem test_word_outAuth : decodeTableWord 8 0b10000 = some .outAuth := by decide
theorem test_word_outDrive : decodeTableWord 8 0b10010 = some .outDrive := by decide
theorem test_word_topCycle : decodeTableWord 8 0b10100 = some (.topCycle false) := by decide
/-- The operand is `CFG 254 0x01`. -/
theorem test_word_sysReset :
    decodeTableWord 48 (0b10111 + 0x01FE * 2 ^ 8) = some (.sysReset true 0x01 254) := by decide
theorem test_word_sysCfgload :
    decodeTableWord 48 (0b11000 + 0x4006 * 2 ^ 8) = some (.sysCfgload 0x40 6) := by decide
theorem test_word_sysCli : decodeTableWord 8 0b11010 = some .sysCli := by decide
theorem test_word_sysRestore :
    decodeTableWord 48 (0b11100 + 1 * 2 ^ 8) = some (.sysRestore true) := by decide
theorem test_word_sysDiag :
    decodeTableWord 48 (0b11110 + 0xDEADBEEF * 2 ^ 8) = some (.sysDiag 0xDEADBEEF) := by decide
/-- R73 (f): `lvl` is ignored by an operation that takes none. -/
theorem test_word_level_ignored : decodeTableWord 8 0b00001 = some .clkTick := by decide
theorem test_word_event_padding :
    decode referenceParams resetContext (.event 0x20 0) = .error .eventPadding := by decide
theorem test_word_operand_padding :
    decode referenceParams resetContext (.event 0x18 0x10000) = .error .operandPadding := by decide
/-- R195 (a): bit 7 of the mask byte is dropped. -/
theorem test_word_mask_byte :
    decode referenceParams resetContext (.event 0x18 0xFF06) = .ok [.sysCfgload 0x7F 6] := by decide
theorem test_word_interval_padding :
    decode referenceParams resetContext (.interval 0x200000000) = .error .intervalPadding := by decide
theorem test_word_lead : decodeTableWord 40 0x100001388 = some (.decIdleLead 5000) := by decide
theorem test_word_gap : decodeTableWord 40 0x000030D41 = some (.decGap 200001) := by decide

/-- The rules an Interval word selects, in the reference configuration. -/
def rulesOf (st : DecoderState) (cnt : BitVec 8) (w : BitVec 40) : Option (List Instr) :=
  match decode referenceParams { decState := st, hdrCnt := cnt } (.interval w) with
  | .ok is => some is
  | .error _ => none

/-! The words of 95_test_vectors.md section 2.4, by the vector's name. -/

theorem test_rules_GAP_1 :
    rulesOf .idle 70 0x000030D41 = some [.decGap 200001, .decIdleNop .space 200001] := by decide
theorem test_rules_IDLE_3 : rulesOf .idle 70 0x100001770 = some [.decIdleLead 6000] := by decide
theorem test_rules_IDLE_6 : rulesOf .idle 70 0x000001388 = some [.decIdleNop .space 5000] := by decide
theorem test_rules_HDR_6 :
    rulesOf .header 0 0x1000001F4 = some [.decHdrCount .pulse 500, .decHdrParity .pulse 500] := by decide
theorem test_rules_HDR_7 :
    rulesOf .header 1 0x1000001F4 = some [.decHdrCount .pulse 500, .decHdrSync .pulse 500] := by decide
theorem test_rules_HDR_13 :
    rulesOf .header 3 0x1000000FA = some [.decHdrCount .pulse 250, .decHdrResync 250] := by decide
theorem test_rules_HDR_16 :
    rulesOf .header 3 0x10000012D = some [.decHdrCount .pulse 301, .decHdrBitp 301] := by decide
theorem test_rules_HDR_35 :
    rulesOf .header 5 0x1000000FA = some [.decHdrCount .pulse 250, .decHdrBitp 250] := by decide
theorem test_rules_HDR_21 :
    rulesOf .header 4 0x00000012C = some [.decHdrCount .space 300, .decHdrBit0 300] := by decide
theorem test_rules_HDR_22 :
    rulesOf .header 4 0x000000190 = some [.decHdrCount .space 400, .decHdrBit1 400] := by decide
theorem test_rules_HDR_24 :
    rulesOf .header 4 0x00000015E = some [.decHdrCount .space 350, .decHdrBadbit 350] := by decide
theorem test_rules_HDR_46 :
    rulesOf .header 69 0x1000000FA = some [.decHdrCount .pulse 250, .decHdrDone 250] := by decide
theorem test_rules_TERM_1 : rulesOf .bypass 11 0x100001388 = some [.decBypass .pulse 5000] := by decide
theorem test_rules_TERM_6 : rulesOf .passthrough 70 0x000030D40 = some [.decPass .space 200000] := by
  decide

/-! ## The clock (vectors CLK-11, CLK-12, CLK-13, CLK-14, CLK-16, CLK-18) -/

theorem test_CLK_11 : (nextOf (exec .clkTick (atClock 255 false 0))).map (·.clk) =
    some { cnt8 := 0, ovfFlag := true, ovfCount := 0 } := by decide
theorem test_CLK_12 : (nextOf (exec .clkTick (atClock 255 true 7))).map (·.clk) =
    some { cnt8 := 0, ovfFlag := true, ovfCount := 7 } := by decide
theorem test_CLK_13 : (nextOf (exec .clkOvf (atClock 0 true 0))).map (·.clk) =
    some { cnt8 := 0, ovfFlag := false, ovfCount := 1 } := by decide
theorem test_CLK_14 : (nextOf (exec .clkOvf (atClock 0 true 0xFFFFFF))).map (·.clk) =
    some { cnt8 := 0, ovfFlag := false, ovfCount := 0 } := by decide
theorem test_CLK_16 :
    nextOf (exec .clkNow (atClock 0 true 2)) = some ((atClock 0 true 2).withRet (.tick 0x300)) := by
  decide
theorem test_CLK_18 : (nextOf (exec .clkNow (atClock 0 true 0xFFFFFF))).map (·.ret) =
    some (.tick 0) := by decide

/-! ## The debouncer (vectors DEB-10 to DEB-15; the Tick 200 is `0xC8`) -/

theorem test_DEB_11 :
    (nextOf (exec (.debEdge true)
      (atActivity 0xC8 0 .active (disarmedAt 150) (armedAt 230) false))).map (·.deb) =
    some { act := .active, settle := disarmedAt 150, confirm := armedAt 250, lastLevel := true
           pinPrev := false } := by decide
theorem test_DEB_12 :
    (nextOf (exec .debSettle
      (atActivity 0xC8 0 .waiting (armedAt 200) (armedAt 230) true))).map (·.deb) =
    some { act := .active, settle := disarmedAt 200, confirm := armedAt 230, lastLevel := true
           pinPrev := true } := by decide
theorem test_DEB_13 :
    (nextOf (exec (.debConfirm true)
      (atActivity 0xC8 0 .active (disarmedAt 150) (armedAt 200) true))).map (·.deb) =
    some { act := .inactive, settle := disarmedAt 150, confirm := disarmedAt 200, lastLevel := true
           pinPrev := true } := by decide
theorem test_DEB_14 :
    (nextOf (exec (.debConfirm false)
      (atActivity 0xC8 0 .active (disarmedAt 150) (armedAt 200) true))).map (·.deb) =
    some { act := .active, settle := disarmedAt 150, confirm := armedAt 250, lastLevel := false
           pinPrev := true } := by decide
/-- DEB-10's effect at DEB-15's Tick, where the addition wraps. -/
theorem test_DEB_15 :
    (nextOf (exec (.debEdge false)
      (atActivity 0xF0 0xFFFFFF .inactive (disarmedAt 0) (disarmedAt 0) true))).map (·.deb) =
    some { act := .waiting, settle := armedAt 0x22, confirm := armedAt 0x22, lastLevel := false
           pinPrev := true } := by decide

/-! ## The sampler (vectors SMP-1 and SMP-5) -/

theorem test_SMP_1 :
    (nextOf (exec .smpPoll (atSampler .space 0 .active 150 0))).map (·.smp) =
    some { curMode := .pulse, lastChange := 150 } := by decide
/-- `{SPACE, 290}` is no gap and IDLE stays: with `CFG 255` the output falls. -/
theorem test_SMP_5 :
    (nextOf (exec .smpPoll ((atSampler .space 0xFFFFFF00 .active 0x22 0).withCfg
      { cfgId := 255, cfgMask := 0x7F }))).map (fun t => (t.smp.lastChange, t.outN)) =
    some (0x22, false) := by decide

/-! ## The decoder step and its rules (vectors GAP, IDLE, HDR, RES, TERM) -/

theorem test_GAP_3 : decAfter (.decStep .space 200001) (atDecoder .header 10 0x0003) =
    some { decState := .idle, hdrCnt := 10, addrAcc := 0x0003 } := by decide
theorem test_HDR_33 : decAfter (.decStep .space 500) (atDecoder .header 14 0x8001) =
    some { decState := .header, hdrCnt := 15, addrAcc := 0x0003 } := by decide
theorem test_GAP_7 : decAfter (.decGap 200001) (atDecoder .passthrough 70 0x0016) =
    some { decState := .idle, hdrCnt := 70, addrAcc := 0x0016 } := by decide
theorem test_IDLE_2 : decAfter (.decIdleLead 4000) (atDecoder .idle 70 0x0016) =
    some { decState := .header, hdrCnt := 0, addrAcc := 0 } := by decide
theorem test_IDLE_4 : decAfter (.decIdleNop .pulse 3999) (atDecoder .idle 70 0x0016) =
    some { decState := .idle, hdrCnt := 70, addrAcc := 0x0016 } := by decide
theorem test_HDR_4_count : decAfter (.decHdrCount .space 399) (atDecoder .header 0 0) =
    some { decState := .header, hdrCnt := 1, addrAcc := 0 } := by decide
theorem test_HDR_9_parity : decAfter (.decHdrParity .space 500) (atDecoder .header 2 0) =
    some { decState := .bypass, hdrCnt := 2, addrAcc := 0 } := by decide
theorem test_HDR_3_sync : decAfter (.decHdrSync .space 600) (atDecoder .header 1 0) =
    some { decState := .header, hdrCnt := 1, addrAcc := 0 } := by decide
theorem test_HDR_5_sync : decAfter (.decHdrSync .space 601) (atDecoder .header 1 0) =
    some { decState := .bypass, hdrCnt := 1, addrAcc := 0 } := by decide
theorem test_HDR_37_bitp : decAfter (.decHdrBitp 300) (atDecoder .header 6 0x0001) =
    some { decState := .header, hdrCnt := 6, addrAcc := 0x0001 } := by decide
theorem test_HDR_42_bitp : decAfter (.decHdrBitp 350) (atDecoder .header 26 0x0016) =
    some { decState := .bypass, hdrCnt := 26, addrAcc := 0x0016 } := by decide
theorem test_HDR_43_resync : decAfter (.decHdrResync 250) (atDecoder .header 48 0x0123) =
    some { decState := .header, hdrCnt := 48, addrAcc := 0 } := by decide
theorem test_HDR_34_bit0 : decAfter (.decHdrBit0 250) (atDecoder .header 15 0xFFFF) =
    some { decState := .header, hdrCnt := 15, addrAcc := 0xFFFE } := by decide
theorem test_HDR_32_bit1 : decAfter (.decHdrBit1 500) (atDecoder .header 15 0x0005) =
    some { decState := .header, hdrCnt := 15, addrAcc := 0x000B } := by decide
theorem test_HDR_27_badbit : decAfter (.decHdrBadbit 399) (atDecoder .header 5 0x0005) =
    some { decState := .bypass, hdrCnt := 5, addrAcc := 0x0005 } := by decide
theorem test_RES_10_done :
    decAfter (.decHdrDone 250)
      ((atDecoder .header 70 0x0406).withCfg { cfgId := 6, cfgMask := 0x40 }) =
    some { decState := .passthrough, hdrCnt := 70, addrAcc := 0x0406 } := by decide
theorem test_RES_11_done :
    decAfter (.decHdrDone 250)
      ((atDecoder .header 70 0x0406).withCfg { cfgId := 6, cfgMask := 0x3F }) =
    some { decState := .bypass, hdrCnt := 70, addrAcc := 0x0406 } := by decide
theorem test_TERM_3 : decAfter (.decBypass .space 200000) (atDecoder .bypass 11 3) =
    some { decState := .bypass, hdrCnt := 11, addrAcc := 3 } := by decide
theorem test_TERM_4 : decAfter (.decPass .pulse 5000) (atDecoder .passthrough 70 0x16) =
    some { decState := .passthrough, hdrCnt := 70, addrAcc := 0x16 } := by decide
/-- The rest of 2.4.6: the verdicts that need neither a matching id nor a channel, and those that
never forward (RES-7, RES-14, RES-16, RES-17, RES-18). -/
theorem test_RES_verdicts :
    [resolve 0 0 0x0006, resolve 254 0x7F 0x07FE, resolve 100 0x7F 0x0016, resolve 6 0x7F 0xF816,
      resolve 6 0x7F 0xF806] = [.passthrough, .bypass, .bypass, .passthrough, .bypass] := by decide
/-- Section 2.4.1, the row whose bounds are not whole numbers. -/
theorem test_classifier_333 :
    [266, 267, 399, 400].map (fun d => inRange d 333) = [false, true, true, false] := by decide

/-! ## The output (section 2.5) -/

theorem test_AUTH_254 :
    (nextOf (exec .outAuth ((atDecoder .passthrough 70 0).withCfg
      { cfgId := 254, cfgMask := 0 }))).map (·.ret) = some (.authorized false) := by decide
theorem test_AUTH_253 :
    (nextOf (exec .outAuth ((atDecoder .passthrough 70 0).withCfg
      { cfgId := 253, cfgMask := 0 }))).map (·.ret) = some (.authorized true) := by decide
theorem test_OUT_1 :
    (nextOf (exec .outDrive ((atDecoder .passthrough 70 0).withSmp
      { curMode := .pulse, lastChange := 0 }))).map (·.outN) = some false := by decide
theorem test_OUT_3 :
    (nextOf (exec .outDrive (((atDecoder .bypass 70 0).withSmp
      { curMode := .pulse, lastChange := 0 }).withOutN false))).map (·.outN) = some true := by decide

/-! ## The cycle (vectors TOP-1 and TOP-4) -/

theorem test_TOP_1 :
    (nextOf (exec (.topCycle false)
      (atActivity 149 0 .waiting (armedAt 150) (armedAt 150) false))).map (fun t => (t.deb, t.smp)) =
    some ({ act := .inactive, settle := disarmedAt 150, confirm := disarmedAt 150
            lastLevel := false, pinPrev := false }, { curMode := .space, lastChange := 0 }) := by decide
theorem test_TOP_4 :
    (nextOf (exec (.topCycle false) (atClock 255 false 0))).map (fun t => (t.clk, t.deb)) =
    some ({ cnt8 := 0, ovfFlag := false, ovfCount := 1 },
      { act := .waiting, settle := armedAt 306, confirm := armedAt 306, lastLevel := false
        pinPrev := false }) := by decide

/-! ## The system operations (vectors SYS-2, SYS-3, SYS-4, SYS-5, SYS-7, SYS-8, SYS-9) -/

/-- A frame being forwarded, at Tick 12345. -/
def midFrame : State :=
  { atActivity 57 48 .active (disarmedAt 0) (armedAt 12350) true with
    smp := { curMode := .pulse, lastChange := 12000 }
    dec := { decState := .passthrough, hdrCnt := 70, addrAcc := 0x16 }
    outN := false }

theorem test_SYS_2 : nextOf (exec (.sysReset false 0x01 254) midFrame) =
    some { State.reset with
      deb := { State.reset.deb with lastLevel := false, pinPrev := false }
      cfg := { cfgId := 254, cfgMask := 0x01 } } := by decide
theorem test_SYS_3 : (nextOf (exec (.sysReset true 0x7F 255) midFrame)).map
    (fun t => (t.authorized, t.outN)) = some (true, true) := by decide
theorem test_SYS_4 : (nextOf (exec (.sysCfgload 0x7F 6)
    (State.reset.withCfg { cfgId := 0, cfgMask := 0 }))).map (·.cfg) =
    some { cfgId := 6, cfgMask := 0x7F } := by decide
theorem test_SYS_5 : refusalOf (exec (.sysCfgload 0x7F 100)
    { State.reset with params := { referenceParams with reservedIds := .refuse } }) =
    some .reservedDeviceId := by decide
theorem test_SYS_7 : nextOf (exec .sysCli State.reset) =
    some { State.reset with ie := false, ret := .savedIe true } := by decide
theorem test_SYS_8_nested : (nextOf (exec .sysCli (State.reset.withIe false))).map
    (fun t => (t.ie, t.ret)) = some (false, .savedIe false) := by decide
theorem test_SYS_8_restore : (nextOf (exec (.sysRestore false) (State.reset.withIe false))).map (·.ie) =
    some false := by decide
theorem test_SYS_9 : refusalOf (exec (.sysDiag 0) State.reset) = some .diagnosticPath := by decide

/-! ## The step (log 1) -/

/-- TOP-6: with nothing queued, the first step from reset is one cycle. -/
theorem test_step_edge : nextOf (step State.reset) = some (atClock 1 false 0) := by decide
theorem test_step_reset : (nextOf (step { midFrame with
    ports := { midFrame.ports with rst := true } })).map (·.outN) = some true := by decide
/-- R212: a cycle delivered while `rst = 1` is a reset with the configuration on the inputs. -/
theorem test_step_cycle_under_reset :
    nextOf (step ({ midFrame with ports := { midFrame.ports with rst := true } }.withFetchWord 8
      0b10101)) =
    some { State.reset with ports := { State.reset.ports with rst := true } } := by decide
theorem test_step_word : nextOf (step (State.reset.withFetchWord 8 0b11010)) =
    nextOf (exec .sysCli State.reset) := by decide

/-! ## Notation of R75 and R76 -/

/-- R66, R76: `HDR 0x016` has 71 Intervals; the SPACE at position 17 carries bit 4, which is 1. -/
theorem test_header_intervals :
    (headerIntervals referenceParams 0x016 0x016 0x016).length = 71 ∧
    (headerIntervals referenceParams 0x016 0x016 0x016)[17]? = some (.space, 500) := by decide
/-- DEB-2: `E 100`, `E 102` from level 1. -/
theorem test_levels : [99, 100, 101, 102].map (levelAt true [100, 102]) =
    [true, false, false, true] := by decide

/-! ## Witnesses: the hypotheses of the statements are met

Three lines at a cycle boundary: quiet, waiting for the settle deadline, and active under `CFG 255`. -/

/-- Tick 12, no edge yet. -/
def quietLine : State := atClock 12 false 0

/-- Tick 149: edges at 100 and 113 (vector DEB-9); both deadlines are armed. -/
def waitingLine : State := atActivity 149 0 .waiting (armedAt 150) (armedAt 163) true

/-- Tick 396 of vector DEB-5 under `CFG 255 0x7F`: the pulse is forwarded, the confirm deadline is one
tick ahead. -/
def activeLine : State :=
  { atActivity 140 1 .active (disarmedAt 150) (armedAt 397) true with
    smp := { curMode := .pulse, lastChange := 150 }
    cfg := { cfgId := 255, cfgMask := 0x7F }
    outN := false }

/-- A quiet line whose device id is reserved. -/
def reservedLine (id : BitVec 8) : State := quietLine.withCfg { cfgId := id, cfgMask := 0x7F }

theorem witness_quietLine : CycleInv quietLine where
  legal := by decide
  settleArmed := by decide
  confirmArmed := by decide
  confirmAfterSettle := by decide
  settleAhead := by unfold Deadline.ahead; decide
  confirmAhead := by unfold Deadline.ahead; decide
  levels := by decide
  noOverflow := by decide
  modes := by decide
  header := by unfold HeaderBounds; decide
  output := by decide
  enabled := by decide

theorem witness_waitingLine : CycleInv waitingLine where
  legal := by decide
  settleArmed := by decide
  confirmArmed := by decide
  confirmAfterSettle := by decide
  settleAhead := by unfold Deadline.ahead; decide
  confirmAhead := by unfold Deadline.ahead; decide
  levels := by decide
  noOverflow := by decide
  modes := by decide
  header := by unfold HeaderBounds; decide
  output := by decide
  enabled := by decide

theorem witness_activeLine : CycleInv activeLine where
  legal := by decide
  settleArmed := by decide
  confirmArmed := by decide
  confirmAfterSettle := by decide
  settleAhead := by unfold Deadline.ahead; decide
  confirmAhead := by unfold Deadline.ahead; decide
  levels := by decide
  noOverflow := by decide
  modes := by decide
  header := by unfold HeaderBounds; decide
  output := by decide
  enabled := by decide

theorem witness_reservedLine (id : BitVec 8) : CycleInv (reservedLine id) where
  legal := witness_quietLine.legal
  settleArmed := witness_quietLine.settleArmed
  confirmArmed := witness_quietLine.confirmArmed
  confirmAfterSettle := witness_quietLine.confirmAfterSettle
  settleAhead := witness_quietLine.settleAhead
  confirmAhead := witness_quietLine.confirmAhead
  levels := witness_quietLine.levels
  noOverflow := witness_quietLine.noOverflow
  modes := witness_quietLine.modes
  header := witness_quietLine.header
  output h := nomatch h
  enabled := witness_quietLine.enabled

/-! ### The clock -/

/-- Both clauses. -/
theorem witness_ClkOvfCountsPendingPeriod : ((atClock 0 true 0xFFFFFF).ie = true ∧
    (atClock 0 true 0xFFFFFF).clk.ovfFlag = true) ∧ (atClock 255 false 7).clk.ovfFlag = false := by
  decide
/-- Both values of the tick clause, and the second clause. -/
theorem witness_TickMovesByOneOrLosesPeriod :
    (∃ t, exec .clkTick (atClock 255 true 7) = .next t) ∧
    (∃ t, exec .clkTick (atClock 255 false 7) = .next t) ∧
    (∃ t, exec .clkOvf (atClock 0 true 7) = .next t) := ⟨⟨_, rfl⟩, ⟨_, rfl⟩, ⟨_, rfl⟩⟩
theorem witness_TickCountsCyclesExactly : CycleInv waitingLine := witness_waitingLine

/-! ### The debouncer -/

/-- Both cases of `act`. -/
theorem witness_DebEdgeArmsDeadlines : (quietLine.ie = true ∧ quietLine.deb.act = .inactive) ∧
    (activeLine.ie = true ∧ activeLine.deb.act = .active) := by decide
theorem witness_DebSettleConfirmsActivity : waitingLine.ie = true ∧ waitingLine.deb.act = .waiting := by
  decide
/-- Both branches. -/
theorem witness_DebConfirmExtendsOrEnds : activeLine.ie = true ∧ false ≠ activeLine.deb.lastLevel ∧
    true = activeLine.deb.lastLevel := by decide
theorem witness_MaskedHandlersAreNotApplied : (activeLine.withIe false).ie = false ∧
    Instr.clkOvf ∈ [Instr.debEdge true, .debSettle, .debConfirm true, .clkOvf] := by decide
/-- One cycle before `OUTDELAY`, at it with a second edge in the last cycle, and at it with none. -/
theorem witness_ActivityAssertedAfterOutdelay : CycleInv quietLine ∧ quietLine.deb.act = .inactive ∧
    false ≠ quietLine.deb.pinPrev ∧ (List.replicate 49 true).length < quietLine.params.outDelay ∧
    (List.replicate 49 false ++ [true]).length = quietLine.params.outDelay ∧
    (List.replicate 50 false).length = quietLine.params.outDelay :=
  ⟨witness_quietLine, by decide⟩
theorem witness_ActivityEndsOutdelayAfterLastEdge : CycleInv activeLine ∧
    false ≠ activeLine.deb.pinPrev := ⟨witness_activeLine, by decide⟩
theorem witness_LoneEdgeProducesNoInterval : CycleInv quietLine ∧ quietLine.deb.act = .inactive ∧
    false ≠ quietLine.deb.pinPrev := ⟨witness_quietLine, by decide⟩
theorem witness_CycleIgnoresPolarity : ∃ t, exec (.topCycle false) waitingLine = .next t := ⟨_, rfl⟩

/-! ### The sampler -/

/-- Both clauses, the first while WAITING. -/
theorem witness_PollEmitsOnModeChange :
    (waitingLine.deb.act = .active ↔ waitingLine.smp.curMode = .pulse) ∧
    ¬((atSampler .space 0 .active 150 0).deb.act = .active ↔
      (atSampler .space 0 .active 150 0).smp.curMode = .pulse) := by decide

/-! ### The decoder -/

/-- The least duration that is a gap. -/
theorem witness_GapSpaceForcesIdle : State.reset.params.tGap < (200001 : Duration).toNat := by decide
/-- The longest SPACE that is no gap, in BYPASS; any PULSE, in PASSTHROUGH. -/
theorem witness_TerminalStatesIgnoreIntervals :
    ((atDecoder .bypass 11 3).dec.decState = .bypass ∧
      ¬(Mode.space = .space ∧ State.reset.params.tGap < (200000 : Duration).toNat)) ∧
    ((atDecoder .passthrough 70 3).dec.decState = .passthrough ∧
      ¬(Mode.pulse = .space ∧ State.reset.params.tGap < (300000 : Duration).toNat)) := by decide
theorem witness_TerminalStatesLeftOnlyToIdle :
    (∃ t, exec (.decStep .space 200001) (atDecoder .passthrough 70 0x16) = .next t) ∧
    (atDecoder .passthrough 70 0x16).dec.decState = .passthrough := ⟨⟨_, rfl⟩, by decide⟩
/-- Positions 1 and 70, where a SPACE and a PULSE are required. -/
theorem witness_WrongModeAbandonsHeader :
    ((atDecoder .header 0 0).dec.decState = .header ∧ (atDecoder .header 0 0).dec.hdrCnt.toNat ≤ 69 ∧
      ¬(Mode.pulse = .space ∧ State.reset.params.tGap < (500 : Duration).toNat) ∧
      (Mode.pulse = .pulse ↔ ((atDecoder .header 0 0).dec.hdrCnt.toNat + 1) % 2 = 1)) ∧
    ((atDecoder .header 69 0).dec.decState = .header ∧ (atDecoder .header 69 0).dec.hdrCnt.toNat ≤ 69 ∧
      ¬(Mode.space = .space ∧ State.reset.params.tGap < (250 : Duration).toNat) ∧
      (Mode.space = .pulse ↔ ((atDecoder .header 69 0).dec.hdrCnt.toNat + 1) % 2 = 1)) := by decide
/-- A gap, in IDLE as the pre-check leaves it, and the longest SPACE that is none, in HEADER. -/
theorem witness_ExactlyOneRuleApplies :
    (Mode.space = .space → referenceParams.tGap < (200001 : Duration).toNat →
      DecoderState.idle = .idle) ∧
    (Mode.space = .space → referenceParams.tGap < (200000 : Duration).toNat →
      DecoderState.header = .idle) := by decide

/-- The nominal header of the addresses of Program 2. -/
def nominalHeader (pos : Nat) : Duration :=
  ticks (headerNominal referenceParams 0x7FF 0x123 0x016 pos)

set_option maxRecDepth 4000 in
theorem witness_HeaderResolvesOnLastCopy : paramsLegal State.reset.params = true ∧
    State.reset.dec.decState = .idle ∧
    IsHeader State.reset.params 0x7FF 0x123 0x016 nominalHeader :=
  ⟨by decide, by decide, by unfold IsHeader; decide⟩

theorem witness_GapRuleForcesIdle : State.reset.params.tGap < (200001 : Duration).toNat := by decide
/-- The shortest and the longest lead pulse. -/
theorem witness_LeadRuleEntersHeader : (atDecoder .idle 70 0x16).dec.decState = .idle ∧
    (4 * State.reset.params.tLead ≤ 5 * (4000 : Duration).toNat ∧
      5 * (4000 : Duration).toNat ≤ 6 * State.reset.params.tLead) ∧
    (4 * State.reset.params.tLead ≤ 5 * (6000 : Duration).toNat ∧
      5 * (6000 : Duration).toNat ≤ 6 * State.reset.params.tLead) := by decide
/-- One witness for each of the three rules, the first one tick short of a lead pulse. -/
theorem witness_SkippingRulesWriteNothing :
    ((atDecoder .idle 70 0).dec.decState = .idle ∧ ¬(Mode.pulse = .pulse ∧
      4 * State.reset.params.tLead ≤ 5 * (3999 : Duration).toNat ∧
      5 * (3999 : Duration).toNat ≤ 6 * State.reset.params.tLead)) ∧
    ((atDecoder .bypass 11 0).dec.decState = .bypass ∧
      ¬(Mode.space = .space ∧ State.reset.params.tGap < (200000 : Duration).toNat)) ∧
    ((atDecoder .passthrough 70 0).dec.decState = .passthrough ∧
      ¬(Mode.space = .space ∧ State.reset.params.tGap < (200000 : Duration).toNat)) := by decide
theorem witness_CountRuleIncrements : (atDecoder .header 69 0).dec.decState = .header ∧
    ¬(Mode.space = .space ∧ State.reset.params.tGap < (200000 : Duration).toNat) := by decide
/-- The first and the last position. -/
theorem witness_ParityRuleAbandons : (atDecoder .header 1 0).dec.decState = .header ∧
    ¬(Mode.pulse = .space ∧ State.reset.params.tGap < (500 : Duration).toNat) ∧
    (Mode.pulse = .pulse ↔ (atDecoder .header 1 0).dec.hdrCnt.toNat % 2 = 1) ∧
    (Mode.space = .pulse ↔ (atDecoder .header 70 0).dec.hdrCnt.toNat % 2 = 1) := by decide
/-- Positions 1 and 2, with the least duration in the window and one below it. -/
theorem witness_SyncRuleChecksSecondStage :
    ((atDecoder .header 1 0).dec.decState = .header ∧ 1 ≤ (atDecoder .header 1 0).dec.hdrCnt.toNat ∧
      (atDecoder .header 1 0).dec.hdrCnt.toNat ≤ 3 ∧
      (Mode.space = .pulse ↔ (atDecoder .header 1 0).dec.hdrCnt.toNat % 2 = 0) ∧
      ¬(Mode.space = .space ∧ State.reset.params.tGap < (400 : Duration).toNat) ∧
      4 * State.reset.params.tSync ≤ 5 * (400 : Duration).toNat) ∧
    ((Mode.pulse = .pulse ↔ (atDecoder .header 2 0).dec.hdrCnt.toNat % 2 = 0) ∧
      ¬(4 * State.reset.params.tSync ≤ 5 * (399 : Duration).toNat)) := by decide
/-- Out of the window at positions 4 and 70; in it at position 6. -/
theorem witness_BitPulseRuleChecksWidth :
    ((atDecoder .header 4 0).dec.decState = .header ∧ (atDecoder .header 4 0).dec.hdrCnt.toNat % 2 = 0 ∧
      (atDecoder .header 70 0).dec.hdrCnt.toNat % 2 = 0 ∧
      ¬(4 * State.reset.params.tBitp ≤ 5 * (199 : Duration).toNat ∧
        5 * (199 : Duration).toNat ≤ 6 * State.reset.params.tBitp)) ∧
    ((atDecoder .header 6 0).dec.hdrCnt.toNat % 2 = 0 ∧
      (atDecoder .header 6 0).dec.hdrCnt.toNat ∉ [4, 26, 48, 70] ∧
      4 * State.reset.params.tBitp ≤ 5 * (200 : Duration).toNat ∧
      5 * (200 : Duration).toNat ≤ 6 * State.reset.params.tBitp) := by decide
theorem witness_ResyncRuleClearsAddress : (atDecoder .header 4 0x1234).dec.decState = .header ∧
    (atDecoder .header 4 0x1234).dec.hdrCnt.toNat ∈ [4, 26, 48] ∧
    4 * State.reset.params.tBitp ≤ 5 * (300 : Duration).toNat ∧
    5 * (300 : Duration).toNat ≤ 6 * State.reset.params.tBitp := by decide
/-- A 0, a 1 and neither, at position 5; position 69 has the same parity. -/
theorem witness_BitRulesShiftOrAbandon :
    ((atDecoder .header 5 0).dec.decState = .header ∧ (atDecoder .header 5 0).dec.hdrCnt.toNat % 2 = 1 ∧
      (atDecoder .header 69 0).dec.hdrCnt.toNat % 2 = 1 ∧
      (601 : Duration).toNat ≤ State.reset.params.tGap) ∧
    (4 * State.reset.params.tZero ≤ 5 * (300 : Duration).toNat ∧
      5 * (300 : Duration).toNat ≤ 6 * State.reset.params.tZero) ∧
    (4 * State.reset.params.tOne ≤ 5 * (400 : Duration).toNat ∧
      5 * (400 : Duration).toNat ≤ 6 * State.reset.params.tOne ∧
      ¬(5 * (400 : Duration).toNat ≤ 6 * State.reset.params.tZero)) ∧
    ¬(5 * (601 : Duration).toNat ≤ 6 * State.reset.params.tOne) := by decide
theorem witness_DoneRuleTakesVerdict : (atDecoder .header 70 0x16).dec.decState = .header ∧
    (atDecoder .header 70 0x16).dec.hdrCnt.toNat = 70 ∧
    4 * State.reset.params.tBitp ≤ 5 * (200 : Duration).toNat ∧
    5 * (200 : Duration).toNat ≤ 6 * State.reset.params.tBitp := by decide
/-- `DEC.HDR.DONE` one position early. -/
theorem witness_UnselectedRulesAreNotApplied :
    (ruleInterval (.decHdrDone 250)).isSome = true ∧
    ruleSelected (atDecoder .header 69 0).params (atDecoder .header 69 0).dec.decState
      (atDecoder .header 69 0).dec.hdrCnt (.decHdrDone 250) = false := by decide
theorem witness_VerdictNeedsIdAndChannel : resolve 6 0x7F 0x0006 ≠ .passthrough := by decide

/-! ### The output -/

theorem witness_DriveForwardsAuthorizedPulse :
    (fwd activeLine.dec.decState activeLine.cfg.cfgId = true ∧ activeLine.smp.curMode = .pulse) ∧
    ¬(fwd quietLine.dec.decState quietLine.cfg.cfgId = true ∧ quietLine.smp.curMode = .pulse) := by
  decide
theorem witness_OutputStaysCombinational : CycleInv activeLine ∧ OutputFollows activeLine ∧
    ∃ t, exec (.topCycle true) activeLine = .next t :=
  ⟨witness_activeLine, by unfold OutputFollows; decide, ⟨_, rfl⟩⟩
theorem witness_RawIdMirrorsActivity : CycleInv activeLine ∧ OutputFollows activeLine ∧
    activeLine.cfg.cfgId = 255 ∧ ∃ t, exec (.topCycle true) activeLine = .next t :=
  ⟨witness_activeLine, by unfold OutputFollows; decide, by decide, ⟨_, rfl⟩⟩
/-- The least and the greatest reserved id. -/
theorem witness_ReservedIdNeverForwards : (CycleInv (reservedLine 16) ∧ CycleInv (reservedLine 253)) ∧
    16 ≤ (reservedLine 16).cfg.cfgId.toNat ∧ (reservedLine 253).cfg.cfgId.toNat ≤ 253 ∧
    (reservedLine 16).dec.decState ≠ .passthrough :=
  ⟨⟨witness_reservedLine 16, witness_reservedLine 253⟩, by decide⟩

/-! ### The system operations -/

theorem witness_ResetEstablishesTable :
    ¬(16 ≤ (15 : BitVec 8).toNat ∧ (15 : BitVec 8).toNat ≤ 253) := by decide
theorem witness_CfgLoadLatchesConfiguration :
    ¬(16 ≤ (254 : BitVec 8).toNat ∧ (254 : BitVec 8).toNat ≤ 253) := by decide
theorem witness_ReservedIdRefusedOrLoaded :
    16 ≤ (16 : BitVec 8).toNat ∧ (253 : BitVec 8).toNat ≤ 253 ∧
    State.reset.params.reservedIds = .load ∧
    { State.reset with params := { referenceParams with reservedIds := .refuse } }.params.reservedIds =
      .refuse := by decide
/-- From the middle of a frame. -/
theorem witness_ResetStateIsSysResetOfDefaults : midFrame.params = referenceParams ∧
    midFrame.ports = { rst := false, rfIn := true, cfgIdIn := 6, cfgMaskIn := 0b1111111 } ∧
    midFrame.stim = [] := by decide
/-- An operation of each owner that writes. -/
theorem witness_OnlyOwnersWrite :
    (∃ t, exec .clkTick quietLine = .next t ∧ t.clk ≠ quietLine.clk) ∧
    (∃ t, exec (.debEdge false) quietLine = .next t ∧ t.deb ≠ quietLine.deb) ∧
    (∃ t, exec (.topCycle true) activeLine = .next t ∧ t.smp ≠ activeLine.smp) ∧
    (∃ t, exec (.decGap 200001) (atDecoder .bypass 1 0) = .next t ∧
      t.dec ≠ (atDecoder .bypass 1 0).dec) ∧
    (∃ t, exec (.sysCfgload 0 0) quietLine = .next t ∧ t.cfg ≠ quietLine.cfg) ∧
    (∃ t, exec .sysCli quietLine = .next t ∧ t.ie ≠ quietLine.ie) ∧
    (∃ t, exec .outDrive (quietLine.withOutN false) = .next t ∧ t.outN ≠ false) := by
  refine ⟨⟨_, rfl, ?_⟩, ⟨_, rfl, ?_⟩, ⟨_, rfl, ?_⟩, ⟨_, rfl, ?_⟩, ⟨_, rfl, ?_⟩, ⟨_, rfl, ?_⟩,
    ⟨_, rfl, ?_⟩⟩ <;> decide

/-! ### The composition and the step -/

theorem witness_CycleIsItsSixSteps : waitingLine.ie = true := by decide
theorem witness_MaskedCycleTicksAndPolls : (waitingLine.withIe false).ie = false := by decide

/-- A waiting line whose environment has queued a cycle and a reset. -/
def drivenLine : State := waitingLine.withStim [.event 0x14 0, .event 0x17 0x7F06]

theorem witness_drivenLine : CycleInv drivenLine where
  legal := witness_waitingLine.legal
  settleArmed := witness_waitingLine.settleArmed
  confirmArmed := witness_waitingLine.confirmArmed
  confirmAfterSettle := witness_waitingLine.confirmAfterSettle
  settleAhead := witness_waitingLine.settleAhead
  confirmAhead := witness_waitingLine.confirmAhead
  levels := witness_waitingLine.levels
  noOverflow := witness_waitingLine.noOverflow
  modes := witness_waitingLine.modes
  header := witness_waitingLine.header
  output := witness_waitingLine.output
  enabled := witness_waitingLine.enabled

theorem witness_StepKeepsCycleInvariants : CycleInv drivenLine ∧ EnvDriven drivenLine ∧
    (nextOf (step drivenLine)).isSome = true :=
  ⟨witness_drivenLine, by unfold EnvDriven; decide, by decide⟩
/-- At the last position of a header. -/
theorem witness_StepKeepsHeaderBounds :
    HeaderBounds ((atDecoder .header 69 0x16).withStim [.interval 0x1000000FA]) ∧
    (nextOf (step ((atDecoder .header 69 0x16).withStim [.interval 0x1000000FA]))).isSome = true :=
  ⟨by unfold HeaderBounds; decide, by decide⟩
/-- A waiting line with a cycle and a reset queued, while `rst` is asserted. -/
def resettingLine : State := drivenLine.withPorts { drivenLine.ports with rst := true }

/-- Each of the five clauses, the first by both of its cases. -/
theorem witness_StepRunsDecodedOperation : paramsLegal drivenLine.params = true ∧
    (decode drivenLine.params drivenLine.decoderContext (.event 0x14 0) = .ok [.topCycle false] ∧
      ruleInterval (.topCycle false) = none ∧ drivenLine.ports.rst = false) ∧
    (decode resettingLine.params resettingLine.decoderContext (.event 0x1A 0) = .ok [.sysCli] ∧
      ruleInterval .sysCli = none ∧ resettingLine.ports.rst = true) ∧
    (resettingLine.stim = [.event 0x14 0, .event 0x17 0x7F06] ∧
      decode resettingLine.params resettingLine.decoderContext (.event 0x14 0) =
        .ok [.topCycle false]) ∧
    (State.reset.withFetchWord 40 0x100001388).stim = encodeInterval .pulse 5000 :: [] ∧
    (quietLine.stim = [] ∧ quietLine.ports.rst = false) ∧
    ((resettingLine.withStim []).stim = [] ∧ (resettingLine.withStim []).ports.rst = true) := by decide
/-- Both clauses. -/
theorem witness_StepRefusesBadInput :
    paramsLegal { referenceParams with tZero := 0 } = false ∧
    paramsLegal (quietLine.withStim [.event 0x20 0]).params = true ∧
    decode quietLine.params quietLine.decoderContext (.event 0x20 0) = .error .eventPadding := by decide
theorem witness_EventWordsRoundTrip : ruleInterval (.sysReset true 0x7F 6) = none := by decide
/-- A gap in a header, and the last position of a header. -/
theorem witness_IntervalWordsRoundTrip :
    (ruleInterval (.decGap 200001) = some (.space, 200001) ∧
      ruleSelected referenceParams
        (if isGapInterval referenceParams .space 200001 then .idle else .header) (10 + 1)
        (.decGap 200001) = true) ∧
    (ruleInterval (.decHdrDone 250) = some (.pulse, 250) ∧
      ruleSelected referenceParams
        (if isGapInterval referenceParams .pulse 250 then .idle else .header) (69 + 1)
        (.decHdrDone 250) = true) := by decide

end Sys2Proof.Tests
end

namespace Sys2Proof.Proofs

open Sys2Proof.Machine

/-- U11: the parameters are checked before the stimulus queue is looked at. -/
theorem step_of_illegalParameters {s : State} (hlegal : paramsLegal s.params = false) :
    step s = .refused .illegalParameters := by
  simp [step, stepOnce, hlegal]

/-- U11, log 9: under legal parameters the decoder's error on the first queued word ends the step,
before any operation runs and whatever is queued behind that word. -/
theorem step_of_undecodableWord {s : State} {w : Stim} {rest : List Stim} {e : StimError}
    (hlegal : paramsLegal s.params = true) (hstim : s.stim = w :: rest)
    (hbad : decode s.params s.decoderContext w = .error e) :
    step s = .refused (.badStimulus e) := by
  simp [step, stepOnce, hlegal, hstim, hbad]

/-- Settles O54, clause by clause: the check of the parameters, then the decoder's error. -/
theorem stepRefusesBadInput : Obligations.StepRefusesBadInput := by
  unfold Obligations.StepRefusesBadInput
  intro s
  constructor
  · exact step_of_illegalParameters
  · intro w rest e hlegal hstim hbad
    exact step_of_undecodableWord hlegal hstim hbad

end Sys2Proof.Proofs

namespace Sys2Proof.Proofs

open Sys2Proof.Machine

/-! ## The rules an Interval word selects (30_encoding.md R72) act as one decoder step (R125) -/

/-- R130, R135: the accumulator restarts at positions that require a PULSE, none of them in the second
stage and none of them the last. -/
theorem resyncPosition_facts {pos : BitVec 8} (h : isResyncPosition pos = true) :
    requiredMode pos = .pulse ∧ isSyncPosition pos = false ∧ pos ≠ hdrTotal := by
  have hpos : pos = 4 ∨ pos = 26 ∨ pos = 48 := by
    simpa [isResyncPosition, resyncPositions] using h
  rcases hpos with rfl | rfl | rfl <;> decide

/-- R130: the last position requires a PULSE and is neither in the second stage nor a restart. -/
theorem hdrTotal_facts : requiredMode hdrTotal = .pulse ∧ isSyncPosition hdrTotal = false ∧
    isResyncPosition hdrTotal = false := by decide

/-- There are two modes (R60): an Interval that has not the required one has the other. -/
theorem eq_otherMode_of_ne {m k : Mode} (h : m ≠ k) : k = otherMode m := by
  cases m <;> cases k <;> simp_all [otherMode]

/-- R72 in IDLE, at any position: the one row that applies does what R125 does there. -/
theorem idleRule_runs (s : State) (m : Mode) (d : Duration) (pos : BitVec 8)
    (hst : s.dec.decState = .idle) :
    ∃ i, (candidateRules m d).filter (ruleSelected s.params .idle pos) = [i] ∧
      execAll [i] s = .next (s.withDec
        (if isLeadInterval s.params m d then s.dec.enterHeader else s.dec)) := by
  cases hl : isLeadInterval s.params m d with
  | true =>
    obtain ⟨rfl, hr⟩ : m = .pulse ∧ inRange d s.params.tLead = true := by
      simpa [isLeadInterval] using hl
    exact ⟨.decIdleLead d,
      by simp [candidateRules, ruleSelected, Instr.wellFormed, isLeadInterval, hr],
      by simp [execAll_singleton, present, applyRule, ruleSelected, Instr.wellFormed, hst, hr]⟩
  | false =>
    refine ⟨.decIdleNop m d, ?_, ?_⟩
    · cases m <;> simp_all [candidateRules, ruleSelected, Instr.wellFormed, isLeadInterval]
    · simp [execAll_singleton, present, applyRule, ruleSelected]

section HeaderRules

variable {s : State} {m : Mode} {d : Duration}

/-- The selection in HEADER answers the rule `i` alone, and `i` does what the HEADER arm of R125 does
(R72). -/
def RunsAsHeaderArm (s : State) (m : Mode) (d : Duration) (i : Instr) : Prop :=
  (candidateRules m d).filter (ruleSelected s.params .header s.dec.hdrCnt) = [i] ∧
    execAll [i] s = .next (s.withDec (s.dec.headerArm s.params s.cfg m d))

/-- R130: an Interval of the other mode, at any position. -/
theorem parityRule_runs (hst : s.dec.decState = .header) (hgap : isGapInterval s.params m d = false)
    (hm : requiredMode s.dec.hdrCnt = otherMode m) : RunsAsHeaderArm s m d (.decHdrParity m d) := by
  constructor
  · cases m with
    | pulse =>
      have hres : isResyncPosition s.dec.hdrCnt = false := by
        by_contra h
        simp [(resyncPosition_facts (by simpa using h)).1, otherMode] at hm
      have htot : s.dec.hdrCnt ≠ hdrTotal := fun h => by simp [h, hdrTotal_facts, otherMode] at hm
      simp [candidateRules, ruleSelected, Instr.wellFormed, hm, otherMode, hgap, hres, htot]
    | space => simp [candidateRules, ruleSelected, Instr.wellFormed, hm, otherMode, hgap]
  · have hne : m ≠ otherMode m := by cases m <;> simp [otherMode]
    simp [execAll_singleton, present, applyRule, ruleSelected, Instr.wellFormed, hst, hgap, hm, hne,
      DecoderRegs.headerArm]

/-- R133: the second stage. -/
theorem syncRule_runs (hst : s.dec.decState = .header) (hgap : isGapInterval s.params m d = false)
    (hm : requiredMode s.dec.hdrCnt = m) (hs : isSyncPosition s.dec.hdrCnt = true) :
    RunsAsHeaderArm s m d (.decHdrSync m d) := by
  constructor
  · have hres : isResyncPosition s.dec.hdrCnt = false := by
      by_contra h
      simp [(resyncPosition_facts (by simpa using h)).2.1] at hs
    have htot : s.dec.hdrCnt ≠ hdrTotal := fun h => by simp [h, hdrTotal_facts] at hs
    cases m <;> simp [candidateRules, ruleSelected, Instr.wellFormed, hm, hs, hgap, hres, htot]
  · simp [execAll_singleton, present, applyRule, ruleSelected, Instr.wellFormed, hst, hgap, hm, hs,
      DecoderRegs.headerArm]

/-- R134, R135, R140: a PULSE after the second stage. -/
theorem pulseRule_runs (hst : s.dec.decState = .header) (hm : requiredMode s.dec.hdrCnt = .pulse)
    (hs : isSyncPosition s.dec.hdrCnt = false) : ∃ i, RunsAsHeaderArm s .pulse d i := by
  cases hb : inRange d s.params.tBitp with
  | false =>
    exact ⟨.decHdrBitp d,
      by simp [candidateRules, ruleSelected, Instr.wellFormed, hm, hs, hb],
      by simp [execAll_singleton, present, applyRule, ruleSelected, Instr.wellFormed, hst, hm, hs, hb,
        DecoderRegs.headerArm]⟩
  | true =>
    cases hres : isResyncPosition s.dec.hdrCnt with
    | true =>
      have htot : s.dec.hdrCnt ≠ hdrTotal := (resyncPosition_facts hres).2.2
      exact ⟨.decHdrResync d,
        by simp [candidateRules, ruleSelected, Instr.wellFormed, hm, hs, hb, hres, htot],
        by simp [execAll_singleton, present, applyRule, ruleSelected, Instr.wellFormed, hst, hm, hs,
          hb, hres, DecoderRegs.headerArm]⟩
    | false =>
      by_cases htot : s.dec.hdrCnt = hdrTotal
      · exact ⟨.decHdrDone d,
          by simp [candidateRules, ruleSelected, Instr.wellFormed, hb, htot, hdrTotal_facts],
          by simp [execAll_singleton, present, applyRule, ruleSelected, Instr.wellFormed, hst, hb,
            htot, hdrTotal_facts, DecoderRegs.headerArm]⟩
      · exact ⟨.decHdrBitp d,
          by simp [candidateRules, ruleSelected, Instr.wellFormed, hm, hs, hb, hres, htot],
          by simp [execAll_singleton, present, applyRule, ruleSelected, Instr.wellFormed, hst, hm, hs,
            hb, hres, htot, DecoderRegs.headerArm]⟩

/-- R136 to R138: a SPACE after the second stage, the window of a 0 bit first. -/
theorem spaceRule_runs (hst : s.dec.decState = .header)
    (hgap : isGapInterval s.params .space d = false) (hm : requiredMode s.dec.hdrCnt = .space)
    (hs : isSyncPosition s.dec.hdrCnt = false) : ∃ i, RunsAsHeaderArm s .space d i := by
  have hg : isGap s.params d = false := by simpa [isGapInterval] using hgap
  cases hz : inRange d s.params.tZero with
  | true =>
    exact ⟨.decHdrBit0 d,
      by simp [candidateRules, ruleSelected, Instr.wellFormed, hm, hs, hg, hz],
      by simp [execAll_singleton, present, applyRule, ruleSelected, Instr.wellFormed, hst, hm, hs, hg,
        hz, DecoderRegs.headerArm]⟩
  | false =>
    cases ho : inRange d s.params.tOne with
    | true =>
      exact ⟨.decHdrBit1 d,
        by simp [candidateRules, ruleSelected, Instr.wellFormed, hm, hs, hg, hz, ho],
        by simp [execAll_singleton, present, applyRule, ruleSelected, Instr.wellFormed, hst, hm, hs,
          hg, hz, ho, DecoderRegs.headerArm]⟩
    | false =>
      exact ⟨.decHdrBadbit d,
        by simp [candidateRules, ruleSelected, Instr.wellFormed, hm, hs, hg, hz, ho],
        by simp [execAll_singleton, present, applyRule, ruleSelected, Instr.wellFormed, hst, hm, hs,
          hg, hz, ho, DecoderRegs.headerArm]⟩

/-- R72 in HEADER, after the increment. -/
theorem headerRule_runs (hst : s.dec.decState = .header)
    (hgap : isGapInterval s.params m d = false) : ∃ i, RunsAsHeaderArm s m d i := by
  by_cases hm : requiredMode s.dec.hdrCnt = m
  · cases hs : isSyncPosition s.dec.hdrCnt with
    | true => exact ⟨_, syncRule_runs hst hgap hm hs⟩
    | false =>
      cases m with
      | pulse => exact pulseRule_runs hst hm hs
      | space => exact spaceRule_runs hst hgap hm hs
  · exact ⟨_, parityRule_runs hst hgap (eq_otherMode_of_ne (Ne.symm hm))⟩

end HeaderRules

/-- R72 in BYPASS and PASSTHROUGH, at any position: the one row that applies writes nothing. -/
theorem terminalRule_runs (s : State) (m : Mode) (d : Duration) (pos : BitVec 8)
    (hst : s.dec.decState = .bypass ∨ s.dec.decState = .passthrough)
    (hgap : isGapInterval s.params m d = false) :
    ∃ i, (candidateRules m d).filter (ruleSelected s.params s.dec.decState pos) = [i] ∧
      execAll [i] s = .next s := by
  rcases hst with hst | hst
  · exact ⟨.decBypass m d,
      by cases m <;> simp [candidateRules, ruleSelected, Instr.wellFormed, hst, hgap],
      by simp [execAll_singleton, present, applyRule]⟩
  · exact ⟨.decPass m d,
      by cases m <;> simp [candidateRules, ruleSelected, Instr.wellFormed, hst, hgap],
      by simp [execAll_singleton, present, applyRule]⟩

/-- R72 outside HEADER: no pre-check row and no count, the second table alone. -/
theorem selectRules_of_not_header {s : State} {m : Mode} {d : Duration}
    (hgap : isGapInterval s.params m d = false) (hst : s.dec.decState ≠ .header) :
    selectRules s.params s.decoderContext m d =
      (candidateRules m d).filter (ruleSelected s.params s.dec.decState (s.dec.hdrCnt + 1)) := by
  simp [selectRules, hgap, State.decoderContext, hst]

/-- R72 against R125: the rules an Interval selects, applied in order, are one decoder step. -/
theorem execAll_selectRules (s : State) (m : Mode) (d : Duration) :
    execAll (selectRules s.params s.decoderContext m d) s = .next (decoderStep m d s) := by
  cases hgap : isGapInterval s.params m d with
  | true =>
    obtain ⟨rfl, hg⟩ : m = .space ∧ isGap s.params d = true := by simpa [isGapInterval] using hgap
    obtain ⟨i, hi, hrun⟩ :=
      idleRule_runs (s.withDec s.dec.forceIdle) .space d (s.dec.hdrCnt + 1) rfl
    have hsel : selectRules s.params s.decoderContext .space d = .decGap d :: [i] := by
      rw [← hi]
      simp [selectRules, hgap, State.decoderContext]
    have hforce : exec (.decGap d) (present (.decGap d) s) = .next (s.withDec s.dec.forceIdle) := by
      simp [present, applyRule, ruleSelected, Instr.wellFormed, hg]
    rw [hsel, execAll_cons_of_next _ hforce, hrun]
    simp [isLeadInterval, decoderStep, DecoderRegs.step, hgap, DecoderRegs.forceIdle, State.withDec]
  | false =>
    cases hst : s.dec.decState with
    | idle =>
      obtain ⟨i, hi, hrun⟩ := idleRule_runs s m d (s.dec.hdrCnt + 1) hst
      rw [selectRules_of_not_header hgap (by simp [hst]), hst, hi, hrun]
      simp [decoderStep, DecoderRegs.step, hgap, hst]
    | header =>
      obtain ⟨i, hi, hrun⟩ := headerRule_runs (s := s.withDec s.dec.count) (m := m) (d := d) hst hgap
      have hsel : selectRules s.params s.decoderContext m d = .decHdrCount m d :: [i] := by
        rw [← hi]
        simp [selectRules, hgap, State.decoderContext, hst, DecoderRegs.count]
      have hcount : exec (.decHdrCount m d) (present (.decHdrCount m d) s) =
          .next (s.withDec s.dec.count) := by
        simp [present, applyRule, ruleSelected, Instr.wellFormed, hst, hgap]
      rw [hsel, execAll_cons_of_next _ hcount, hrun]
      simp [decoderStep, DecoderRegs.step, hgap, hst, State.withDec]
    | bypass =>
      obtain ⟨i, hi, hrun⟩ := terminalRule_runs s m d (s.dec.hdrCnt + 1) (.inl hst) hgap
      rw [selectRules_of_not_header hgap (by simp [hst]), hi, hrun]
      simp [decoderStep, DecoderRegs.step, hgap, hst]
    | passthrough =>
      obtain ⟨i, hi, hrun⟩ := terminalRule_runs s m d (s.dec.hdrCnt + 1) (.inr hst) hgap
      rw [selectRules_of_not_header hgap (by simp [hst]), hi, hrun]
      simp [decoderStep, DecoderRegs.step, hgap, hst]

/-! ## What one step runs (Machine/Fetch.lean) -/

/-- An operand word that is accepted stands for one operation (R70). -/
theorem withOperand_ok {width : Nat} {operand : BitVec 40} {make : BitVec 40 → Instr}
    {is : List Instr} (h : withOperand width operand make = .ok is) : is = [make operand] := by
  unfold withOperand at h
  split at h
  · simpa using h.symm
  · cases h

/-- R70: an event word that is accepted stands for one event operation. -/
theorem decodeEvent_ok {ev : BitVec 8} {operand : BitVec 40} {is : List Instr}
    (h : decodeEvent ev operand = .ok is) : ∃ i, is = [i] ∧ ruleInterval i = none := by
  unfold decodeEvent at h
  dsimp only at h
  split at h
  · cases h
  · split at h <;> exact ⟨_, withOperand_ok h, rfl⟩

/-- R71: a word the environment may apply stands for a cycle or a reset. -/
theorem decode_environmentWord {P : Params} {c : DecoderContext} {w : Stim} {is : List Instr}
    (hw : isEnvironmentWord w = true) (h : decode P c w = .ok is) :
    (∃ lvl, is = [.topCycle lvl]) ∨ ∃ lvl mask id, is = [.sysReset lvl mask id] := by
  cases w with
  | interval iv => simp [isEnvironmentWord] at hw
  | event ev operand =>
    have hop : eventOp ev = 10 ∨ eventOp ev = 11 := by simpa [isEnvironmentWord] using hw
    simp only [decode, decodeEvent] at h
    split at h
    · cases h
    · rcases hop with hop | hop <;> rw [hop] at h
      · exact .inl ⟨_, withOperand_ok h⟩
      · exact .inr ⟨_, _, _, withOperand_ok h⟩

/-- R72: what is selected for an Interval are decoder rules. -/
theorem ruleInterval_of_mem_selectRules {P : Params} {c : DecoderContext} {m : Mode} {d : Duration}
    {i : Instr} (h : i ∈ selectRules P c m d) : (ruleInterval i).isSome = true := by
  have hcand : ∀ j ∈ candidateRules m d, (ruleInterval j).isSome = true := by
    cases m <;> simp [candidateRules, ruleInterval]
  simp only [selectRules, List.mem_append, List.mem_filter] at h
  rcases h with (h | h) | ⟨h, -⟩
  · split at h <;> simp_all [ruleInterval]
  · split at h <;> simp_all [ruleInterval]
  · exact hcand i h

/-- Log 14: what `rst` is does not matter to the rules of an Interval. -/
theorem map_underReset_selectRules (p : Ports) (P : Params) (c : DecoderContext) (m : Mode)
    (d : Duration) : (selectRules P c m d).map (underReset p) = selectRules P c m d :=
  (List.map_congr_left fun _ hi => underReset_rule p (ruleInterval_of_mem_selectRules hi)).trans
    (List.map_id' _)

/-- What a step that answers a next state has run: the clock's edge, the event operation of a queued
word, or the decoder step of a queued Interval. -/
theorem step_next_cases {s t : State} (h : step s = .next t) :
    (s.stim = [] ∧ execAll [clockEdge s] s = .next t) ∨
    ∃ w rest, s.stim = w :: rest ∧
      ((∃ i, decode s.params s.decoderContext w = .ok [i] ∧ ruleInterval i = none ∧
        execAll [underReset s.ports i] (s.withStim rest) = .next t) ∨
      (isEnvironmentWord w = false ∧ ∃ m d, decoderStep m d (s.withStim rest) = t)) := by
  unfold step stepOnce at h
  split at h
  swap
  · cases h
  split at h
  · exact .inl ⟨‹_›, h⟩
  next w rest hstim =>
  refine .inr ⟨w, rest, hstim, ?_⟩
  split at h
  swap
  · cases h
  next is hdec =>
  cases w with
  | event ev operand =>
    obtain ⟨i, rfl, hi⟩ := decodeEvent_ok hdec
    exact .inl ⟨i, hdec, hi, h⟩
  | interval iv =>
    simp only [decode, decodeInterval] at hdec
    split at hdec
    swap
    · cases hdec
    cases hdec
    rw [map_underReset_selectRules] at h
    have hrun := (execAll_selectRules (s.withStim rest) _ _).symm.trans h
    exact .inr ⟨rfl, _, _, by simpa using hrun⟩

/-! ## The bounds of `hdr_cnt` (10_state.md R38 (h)) -/

/-- R38 (h) on the decoder's registers alone. -/
def RegsBounded (r : DecoderRegs) : Prop :=
  (r.decState = .header → r.hdrCnt.toNat ≤ 69) ∧ r.hdrCnt.toNat ≤ 70

theorem headerBounds_iff (s : State) : HeaderBounds s ↔ RegsBounded s.dec := Iff.rfl

/-- Out of HEADER the count is at most 70; in HEADER it has not reached 70. -/
theorem regsBounded_of_ne_total {r : DecoderRegs} (hle : r.hdrCnt.toNat ≤ 70)
    (hne : r.hdrCnt ≠ hdrTotal) : RegsBounded r := by
  have hval : r.hdrCnt.toNat ≠ 70 := fun h => hne (BitVec.eq_of_toNat_eq h)
  exact ⟨fun _ => by omega, hle⟩

theorem regsBounded_of_not_header {r : DecoderRegs} (hle : r.hdrCnt.toNat ≤ 70)
    (hst : r.decState ≠ .header) : RegsBounded r := ⟨fun h => absurd h hst, hle⟩

/-- R141: no verdict stays in HEADER. -/
theorem resolve_ne_header (id : BitVec 8) (mask : BitVec 7) (a : BitVec 16) :
    resolve id mask a ≠ .header := by
  unfold resolve
  split_ifs <;> simp

/-- R134 to R140: the arm at the last position leaves HEADER, and no arm moves the count. -/
theorem headerArm_bounded (P : Params) (cfg : ConfigRegs) (m : Mode) (d : Duration)
    {r : DecoderRegs} (hle : r.hdrCnt.toNat ≤ 70) : RegsBounded (r.headerArm P cfg m d) := by
  rcases r.headerArm_cases P cfg m d with
    h | ⟨-, h, hne⟩ | ⟨-, hres, h⟩ | ⟨-, -, h⟩ | ⟨-, hm, b, h⟩ <;> rw [h]
  · exact regsBounded_of_not_header hle (by simp)
  · exact regsBounded_of_ne_total hle hne
  · exact regsBounded_of_ne_total hle (resyncPosition_facts hres).2.2
  · exact regsBounded_of_not_header hle (resolve_ne_header _ _ _)
  · exact regsBounded_of_ne_total hle fun ht => by
      have ht' : r.hdrCnt = hdrTotal := ht
      simp [ht', hdrTotal_facts] at hm

/-- R125: a decoder step keeps the bounds, whatever the Interval. -/
theorem decoderRegs_step_bounded (P : Params) (cfg : ConfigRegs) (m : Mode) (d : Duration)
    {r : DecoderRegs} (hr : RegsBounded r) : RegsBounded (r.step P cfg m d) := by
  obtain ⟨hheader, hle⟩ := hr
  rcases r.step_cases P cfg m d with
    ⟨-, h⟩ | ⟨-, -, -, h⟩ | ⟨-, -, -, h⟩ | ⟨-, hst, h⟩ | ⟨-, -, h⟩ <;> rw [h]
  · exact regsBounded_of_not_header hle (by simp [DecoderRegs.forceIdle])
  · exact regsBounded_of_ne_total (by simp [DecoderRegs.enterHeader])
      (by simp [DecoderRegs.enterHeader, hdrTotal])
  · exact ⟨hheader, hle⟩
  · have h69 := hheader hst
    refine headerArm_bounded P cfg m d ?_
    have hcount : r.count.hdrCnt.toNat = (r.hdrCnt.toNat + 1) % 256 := by simp [DecoderRegs.count]
    omega
  · exact ⟨hheader, hle⟩

theorem decoderStep_headerBounds (m : Mode) (d : Duration) {s : State} (h : HeaderBounds s) :
    HeaderBounds (decoderStep m d s) := decoderRegs_step_bounded s.params s.cfg m d h

/-- R117: a poll touches the decoder by one step at most. -/
theorem poll_headerBounds {s : State} (h : HeaderBounds s) : HeaderBounds (poll s) := by
  rcases poll_cases s with ⟨-, hpoll⟩ | ⟨-, hpoll⟩ <;> rw [hpoll]
  · exact h
  · exact decoderRegs_step_bounded s.params s.cfg _ _ h

/-- R58: the interrupt handlers leave the decoder. -/
@[simp] theorem serviceInterrupts_dec (lvl : Level) (s : State) :
    (serviceInterrupts lvl s).dec = s.dec := by
  rw [serviceInterrupts_frame]
  rfl

/-- R170: in a cycle the poll alone touches the decoder. -/
theorem cycle_headerBounds (lvl : Level) {s : State} (h : HeaderBounds s) :
    HeaderBounds (cycle lvl s) :=
  poll_headerBounds (by simpa [headerBounds_iff] using h)

/-- R210: a reset that is not refused establishes the table of R37. -/
theorem resetRegisters_of_exec_next {lvl : Level} {mask : BitVec 7} {id : BitVec 8} {s t : State}
    (h : exec (.sysReset lvl mask id) s = .next t) : resetRegisters lvl mask id s = t := by
  rw [exec_sysReset] at h
  split at h <;> cases h
  rfl

/-- The word of a handler applied directly writes the debouncer alone. -/
@[simp] theorem applyHandler_dec (body : DebouncerRegs → DebouncerRegs) (s : State) :
    (applyHandler body s).dec = s.dec := by
  unfold applyHandler
  split <;> rfl

/-- R41: of the event operations a decoder step, a poll, a cycle and a reset alone touch the decoder,
and each keeps the bounds. -/
theorem exec_headerBounds {i : Instr} (hi : ruleInterval i = none) {s t : State}
    (h : HeaderBounds s) (hrun : exec i s = .next t) : HeaderBounds t := by
  cases i with
  | decStep m d =>
    obtain rfl : decoderStep m d s = t := by simpa using hrun
    exact decoderStep_headerBounds m d h
  | smpPoll =>
    obtain rfl : poll s = t := by simpa using hrun
    exact poll_headerBounds h
  | topCycle lvl =>
    obtain rfl : cycle lvl s = t := by simpa using hrun
    exact cycle_headerBounds lvl h
  | sysReset lvl mask id =>
    obtain rfl := resetRegisters_of_exec_next hrun
    exact regsBounded_of_not_header (by simp [resetRegisters]) (by simp [resetRegisters])
  | clkOvf =>
    obtain rfl := Host.Outcome.next.inj hrun
    split <;> exact h
  | debEdge | debSettle | debConfirm =>
    obtain rfl := Host.Outcome.next.inj hrun
    simpa [headerBounds_iff] using h
  | sysCfgload mask id =>
    rw [exec_sysCfgload] at hrun
    split at hrun <;> cases hrun
    exact h
  | sysDiag value => cases hrun
  | clkTick | clkNow | outAuth | outDrive | sysCli | sysRestore =>
    obtain rfl := Host.Outcome.next.inj hrun
    exact h
  | _ => cases hi

/-- Driving the ports does not touch the decoder. -/
@[simp] theorem present_dec (i : Instr) (s : State) : (present i s).dec = s.dec := by
  rw [present_eq]
  rfl

/-- With `rst = 1` a cycle becomes a reset; both are event operations. -/
theorem ruleInterval_underReset {p : Ports} {i : Instr} (hi : ruleInterval i = none) :
    ruleInterval (underReset p i) = none := by
  cases i with
  | topCycle lvl =>
    simp only [underReset]
    split <;> rfl
  | _ => exact hi

/-- One event operation of a step keeps the bounds. -/
theorem execAll_singleton_headerBounds {i : Instr} (hi : ruleInterval i = none) {s t : State}
    (h : HeaderBounds s) (hrun : execAll [i] s = .next t) : HeaderBounds t := by
  rw [execAll_singleton] at hrun
  exact exec_headerBounds hi (by simpa [headerBounds_iff] using h) hrun

/-- Settles O51, by what a step can run: an event operation or a decoder step. -/
theorem stepKeepsHeaderBounds : Obligations.StepKeepsHeaderBounds := by
  unfold Obligations.StepKeepsHeaderBounds
  intro s t h hstep
  rcases step_next_cases hstep with
    ⟨-, hrun⟩ | ⟨w, rest, -, ⟨i, -, hi, hrun⟩ | ⟨-, m, d, rfl⟩⟩
  · exact execAll_singleton_headerBounds (ruleInterval_underReset rfl) h hrun
  · exact execAll_singleton_headerBounds (s := s.withStim rest) (ruleInterval_underReset hi) h hrun
  · exact decoderStep_headerBounds (s := s.withStim rest) m d h

/-! ## The debouncer's deadlines inside a cycle (10_state.md R38 (a) to (d), R106) -/

/-- How many ticks after `now` the deadline is due, modulo the wrap of the Tick. -/
def ticksUntil (now : Tick) (x : Deadline) : Nat := (x.due - now).toNat

/-- R106: an armed deadline fires at the Tick that leaves it nothing to wait. -/
theorem firesAt_iff (x : Deadline) (now : Tick) :
    x.firesAt now = true ↔ x.armed = true ∧ ticksUntil now x = 0 := by
  have hzero : x.due = now ↔ ticksUntil now x = 0 := by
    unfold ticksUntil
    bv_omega
  simp [Deadline.firesAt, hzero]

/-- A tick brings a deadline that was ahead one tick nearer. -/
theorem ticksUntil_succ {now : Tick} {x : Deadline} (h : 1 ≤ ticksUntil now x) :
    ticksUntil (now + 1) x + 1 = ticksUntil now x := by
  unfold ticksUntil at *
  bv_omega

/-- R4 (b) in the form the deadlines need: `OUTDELAY` is 1 to 255 ticks. -/
theorem outDelay_bounds {P : Params} (h : paramsLegal P = true) :
    1 ≤ P.outDelay ∧ P.outDelay ≤ 255 := by
  simp only [paramsLegal, Bool.and_eq_true, decide_eq_true_eq] at h
  obtain ⟨⟨⟨⟨-, hdelay⟩, -⟩, -⟩, -⟩ := h
  exact hdelay

/-- R103, R105: a deadline armed now is due in `OUTDELAY` ticks. -/
theorem ticksUntil_deadlineFrom {P : Params} (h : P.outDelay ≤ 255) (now : Tick) :
    ticksUntil now { armed := true, due := deadlineFrom P now } = P.outDelay := by
  have hsub : deadlineFrom P now - now = BitVec.ofNat 32 P.outDelay := by
    unfold deadlineFrom
    bv_omega
  rw [ticksUntil, hsub, BitVec.toNat_ofNat]
  omega

/-- R38 (a) to (d) in terms of what each deadline has still to wait at the Tick `now`. At a cycle
boundary an armed deadline waits at least 1 tick; inside a cycle a source not yet tested may be due now,
so the two lower bounds are arguments. -/
structure DebounceTimed (P : Params) (now : Tick) (settleMin confirmMin : Nat) (r : DebouncerRegs) :
    Prop where
  settleArmed : r.settle.armed = true ↔ r.act = .waiting
  confirmArmed : r.confirm.armed = true ↔ r.act ≠ .inactive
  order : r.settle.armed = true → ticksUntil now r.settle ≤ ticksUntil now r.confirm
  settleAhead : r.settle.armed = true → settleMin ≤ ticksUntil now r.settle
  confirmAhead : r.confirm.armed = true →
    confirmMin ≤ ticksUntil now r.confirm ∧ ticksUntil now r.confirm ≤ P.outDelay
  levels : r.lastLevel = r.pinPrev

/-- R38 (c): between two deadlines at most 255 ticks ahead, the confirm deadline is less than
`OUTDELAY` after the settle deadline just if it is not the earlier one. -/
theorem due_sub_lt_iff {now : Tick} {x y : Deadline} {n : Nat} (hn : n ≤ 255)
    (hx : 1 ≤ ticksUntil now x ∧ ticksUntil now x ≤ n) (hy : ticksUntil now y ≤ n) :
    (y.due - x.due).toNat < n ↔ ticksUntil now x ≤ ticksUntil now y := by
  unfold ticksUntil at *
  bv_omega

/-! The debouncer and the clock when each source has its turn (R188), raised or not. -/

/-- R102, R103: the edge detector's memory follows the line, and a change of level is an edge. -/
def edgeTurn (P : Params) (now : Tick) (lvl : Level) (r : DebouncerRegs) : DebouncerRegs :=
  if lvl ≠ r.pinPrev then DebouncerRegs.onEdge P now lvl { r with pinPrev := lvl } else r

/-- R104: the settle handler, if its deadline is due. -/
def settleTurn (now : Tick) (r : DebouncerRegs) : DebouncerRegs :=
  if r.settle.firesAt now then r.onSettle else r

/-- R105: the confirm handler, if its deadline is due. -/
def confirmTurn (P : Params) (now : Tick) (lvl : Level) (r : DebouncerRegs) : DebouncerRegs :=
  if r.confirm.firesAt now then r.onConfirm P now lvl else r

/-- R91: the overflow handler, if an overflow is pending. -/
def overflowTurn (c : ClockRegs) : ClockRegs := if c.ovfFlag then c.countOverflow else c

/-- Of two updates of the debouncer the later stands. -/
@[simp] theorem withDeb_withDeb (s : State) (x y : DebouncerRegs) :
    (s.withDeb x).withDeb y = s.withDeb y := rfl

/-- R188, R191: with interrupts enabled a cycle's dispatch is the four turns, at one Tick. -/
theorem serviceInterrupts_enabled (lvl : Level) {s : State} (hie : s.ie = true) :
    serviceInterrupts lvl s =
      (s.withDeb (confirmTurn s.params s.now lvl (settleTurn s.now
        (edgeTurn s.params s.now lvl s.deb)))).withClk (overflowTurn s.clk) := by
  have hedge : serviceSource lvl s .pinChange =
      s.withDeb (edgeTurn s.params s.now lvl s.deb) := by
    by_cases h : lvl = s.deb.pinPrev <;>
      simp [serviceSource, hie, raised, takeInterrupt, edgeTurn, h]
  have hsettle : ∀ r, serviceSource lvl (s.withDeb r) .settleCompare =
      s.withDeb (settleTurn s.now r) := by
    intro r
    cases h : r.settle.firesAt s.now <;>
      simp [serviceSource, hie, raised, takeInterrupt, settleTurn, h]
  have hconfirm : ∀ r, serviceSource lvl (s.withDeb r) .confirmCompare =
      s.withDeb (confirmTurn s.params s.now lvl r) := by
    intro r
    cases h : r.confirm.firesAt s.now <;>
      simp [serviceSource, hie, raised, takeInterrupt, confirmTurn, h]
  have hoverflow : ∀ u : State, u.ie = true →
      serviceSource lvl u .overflow = u.withClk (overflowTurn u.clk) := by
    intro u hu
    cases h : u.clk.ovfFlag <;> simp [serviceSource, hu, raised, takeInterrupt, overflowTurn, h]
  rw [serviceInterrupts_eq, hedge, hsettle, hconfirm, hoverflow _ (by simpa using hie)]
  rfl

/-- R38 (e): no overflow is pending once its source has had its turn. -/
theorem overflowTurn_ovfFlag (c : ClockRegs) : (overflowTurn c).ovfFlag = false := by
  cases h : c.ovfFlag <;> simp [overflowTurn, h, ClockRegs.countOverflow]

/-- R94: nor does that turn move the Tick. -/
theorem overflowTurn_now (c : ClockRegs) : (overflowTurn c).now = c.now := by
  unfold overflowTurn
  split
  · exact c.now_countOverflow ‹_›
  · rfl

/-- After the pin's turn the level recorded last is the level now, whether the line changed or not. -/
theorem edgeTurn_lastLevel (P : Params) (now : Tick) (lvl : Level) {r : DebouncerRegs}
    (h : r.lastLevel = r.pinPrev) : (edgeTurn P now lvl r).lastLevel = lvl := by
  unfold edgeTurn
  split
  · rfl
  · simp_all

/-- R104: the settle handler leaves the recorded level. -/
@[simp] theorem settleTurn_lastLevel (now : Tick) (r : DebouncerRegs) :
    (settleTurn now r).lastLevel = r.lastLevel := by
  unfold settleTurn
  split <;> rfl

section Timed

variable {P : Params} {now : Tick} {settleMin confirmMin : Nat} {r : DebouncerRegs}

/-- A settle deadline is armed only beside a confirm deadline (R38 (a), (b)). -/
theorem DebounceTimed.confirm_of_settle (h : DebounceTimed P now settleMin confirmMin r)
    (hs : r.settle.armed = true) : r.confirm.armed = true := by
  rw [h.confirmArmed, h.settleArmed.1 hs]
  simp

/-- R38 (a) to (d) at a cycle boundary are the statement with both lower bounds at 1. -/
theorem debounceTimed_of_cycleInv {s : State} (h : CycleInv s) :
    DebounceTimed s.params s.now 1 1 s.deb where
  settleArmed := h.settleArmed
  confirmArmed := h.confirmArmed
  order hs := by
    have hc : s.deb.confirm.armed = true := by simp [h.confirmArmed, h.settleArmed.1 hs]
    exact (due_sub_lt_iff (outDelay_bounds h.legal).2 (h.settleAhead hs) (h.confirmAhead hc).2).1
      (h.confirmAfterSettle hs hc)
  settleAhead hs := (h.settleAhead hs).1
  confirmAhead hc := h.confirmAhead hc
  levels := h.levels

/-- R90: the clock's tick brings every deadline one tick nearer. -/
theorem DebounceTimed.tick (h : DebounceTimed P now 1 1 r) : DebounceTimed P (now + 1) 0 0 r where
  settleArmed := h.settleArmed
  confirmArmed := h.confirmArmed
  order hs := by
    have hsettle := ticksUntil_succ (h.settleAhead hs)
    have hconfirm := ticksUntil_succ (h.confirmAhead (h.confirm_of_settle hs)).1
    have horder := h.order hs
    omega
  settleAhead _ := Nat.zero_le _
  confirmAhead hc := by
    have hconfirm := ticksUntil_succ (h.confirmAhead hc).1
    have hbound := (h.confirmAhead hc).2
    omega
  levels := h.levels

/-- R102, R103: an edge, with the level recorded by the edge detector. -/
theorem DebounceTimed.onEdge (hdelay : P.outDelay ≤ 255) (h : DebounceTimed P now 0 0 r)
    (lvl : Level) :
    DebounceTimed P now 0 0 (DebouncerRegs.onEdge P now lvl { r with pinPrev := lvl }) := by
  have hnew := ticksUntil_deadlineFrom hdelay now
  rcases DebouncerRegs.onEdge_cases P now lvl { r with pinPrev := lvl } with
    ⟨-, hact, hsettle⟩ | ⟨hne, hact, hsettle⟩
  · constructor <;> simp [hact, hsettle, hnew]
  · replace hact : _ = r.act := hact
    replace hsettle : _ = r.settle := hsettle
    constructor <;> simp only [hact, hsettle, DebouncerRegs.onEdge_confirm, hnew,
      DebouncerRegs.onEdge_lastLevel, DebouncerRegs.onEdge_pinPrev]
    · exact h.settleArmed
    · simpa using hne
    · intro hs
      have horder := h.order hs
      have hbound := (h.confirmAhead (h.confirm_of_settle hs)).2
      omega
    · simp
    · simp

/-- The pin's turn: the deadlines due now are still to be tested. -/
theorem DebounceTimed.edgeTurn (hdelay : P.outDelay ≤ 255) (h : DebounceTimed P now 0 0 r)
    (lvl : Level) : DebounceTimed P now 0 0 (edgeTurn P now lvl r) := by
  unfold Proofs.edgeTurn
  split
  · exact h.onEdge hdelay lvl
  · exact h

/-- R106: the settle deadline's turn leaves none that is due now. -/
theorem DebounceTimed.settleTurn (h : DebounceTimed P now 0 confirmMin r) :
    DebounceTimed P now 1 confirmMin (settleTurn now r) := by
  unfold Proofs.settleTurn
  split
  next hfires =>
    obtain ⟨hs, -⟩ := (firesAt_iff _ _).1 hfires
    have hwait := h.settleArmed.1 hs
    have hc := h.confirmAhead (h.confirm_of_settle hs)
    constructor <;> simp [DebouncerRegs.onSettle, Deadline.disarm, hwait, hc, h.levels,
      h.confirm_of_settle hs]
  next hfires =>
    refine { h with settleAhead := fun hs => Nat.one_le_iff_ne_zero.2 fun hzero => ?_ }
    exact hfires ((firesAt_iff _ _).2 ⟨hs, hzero⟩)

/-- R106: the confirm deadline's turn leaves none that is due now. The pin's turn has recorded the
level, so a confirm that fires finds the line stable and ends the activity. -/
theorem DebounceTimed.confirmTurn (h : DebounceTimed P now 1 0 r) {lvl : Level}
    (hlvl : r.lastLevel = lvl) : DebounceTimed P now 1 1 (confirmTurn P now lvl r) := by
  unfold Proofs.confirmTurn
  subst hlvl
  split
  next hfires =>
    rw [DebouncerRegs.onConfirm_stable]
    constructor <;> simp [Deadline.disarm, h.levels]
  next hfires =>
    refine { h with
      confirmAhead := fun hc => ⟨Nat.one_le_iff_ne_zero.2 fun hzero => ?_, (h.confirmAhead hc).2⟩ }
    exact hfires ((firesAt_iff _ _).2 ⟨hc, hzero⟩)

end Timed

/-- R188: after the four sources the debouncer is as R38 has it at a cycle boundary, no overflow is
pending and the Tick has not moved. -/
theorem serviceInterrupts_timed (lvl : Level) {s : State} (hie : s.ie = true)
    (hdelay : s.params.outDelay ≤ 255) (h : DebounceTimed s.params s.now 0 0 s.deb) :
    DebounceTimed s.params s.now 1 1 (serviceInterrupts lvl s).deb ∧
      (serviceInterrupts lvl s).clk.ovfFlag = false ∧ (serviceInterrupts lvl s).now = s.now := by
  have hlevel : (settleTurn s.now (edgeTurn s.params s.now lvl s.deb)).lastLevel = lvl := by
    simp [edgeTurn_lastLevel, h.levels]
  rw [serviceInterrupts_enabled lvl hie]
  exact ⟨((h.edgeTurn hdelay lvl).settleTurn).confirmTurn hlevel, overflowTurn_ovfFlag _,
    overflowTurn_now _⟩

/-! ## What the handlers and the poll leave (10_state.md R41, R58) -/

section Frames

variable (lvl : Level) (s : State)

@[simp] theorem serviceInterrupts_smp : (serviceInterrupts lvl s).smp = s.smp := by
  rw [serviceInterrupts_frame]; rfl
@[simp] theorem serviceInterrupts_cfg : (serviceInterrupts lvl s).cfg = s.cfg := by
  rw [serviceInterrupts_frame]; rfl
@[simp] theorem serviceInterrupts_ie : (serviceInterrupts lvl s).ie = s.ie := by
  rw [serviceInterrupts_frame]; rfl
@[simp] theorem serviceInterrupts_outN : (serviceInterrupts lvl s).outN = s.outN := by
  rw [serviceInterrupts_frame]; rfl
@[simp] theorem serviceInterrupts_params : (serviceInterrupts lvl s).params = s.params := by
  rw [serviceInterrupts_frame]; rfl

@[simp] theorem poll_clk : (poll s).clk = s.clk := by rw [poll_frame]; rfl
@[simp] theorem poll_deb : (poll s).deb = s.deb := by rw [poll_frame]; rfl
@[simp] theorem poll_ie : (poll s).ie = s.ie := by rw [poll_frame]; rfl
@[simp] theorem poll_params : (poll s).params = s.params := by rw [poll_frame]; rfl
@[simp] theorem poll_now : (poll s).now = s.now := by rw [poll_frame]; rfl

/-- R116, R117: after a poll the sampler's mode is the activity's. -/
@[simp] theorem poll_curMode : (poll s).smp.curMode = modeOf s.deb.act := by
  rcases poll_cases s with ⟨hmode, h⟩ | ⟨-, h⟩ <;> rw [h]
  · exact hmode.symm
  · rfl

@[simp] theorem cycle_stim : (cycle lvl s).stim = s.stim := by rw [cycle_frame]

end Frames

/-! ## The invariants of R38 over cycles and resets -/

/-- R38 (i): the output is low only for an authorized pulse. -/
def LowOnlyForwarding (s : State) : Prop :=
  s.outN = false → s.smp.curMode = .pulse ∧ fwd s.dec.decState s.cfg.cfgId = true

/-- R161: driving the output establishes R38 (i). -/
theorem driveOutput_lowOnlyForwarding (s : State) : LowOnlyForwarding (driveOutput s) := by
  intro h
  have hlow : outputLevel s.authorized s.smp.curMode = false := h
  simp only [outputLevel, Bool.not_eq_false', Bool.and_eq_true, decide_eq_true_eq] at hlow
  exact hlow.symm

/-- R117: a poll drives the output whenever it changes what the output depends on. -/
theorem poll_lowOnlyForwarding {s : State} (h : LowOnlyForwarding s) :
    LowOnlyForwarding (poll s) := by
  rcases poll_cases s with ⟨-, hpoll⟩ | ⟨-, hpoll⟩ <;> rw [hpoll]
  · exact h
  · exact driveOutput_lowOnlyForwarding _

/-- R38 after a poll: the poll itself brings the mode of (f); the rest it has to find, and keeps. -/
theorem cycleInv_poll {s : State} (hlegal : paramsLegal s.params = true)
    (htimed : DebounceTimed s.params s.now 1 1 s.deb) (hovf : s.clk.ovfFlag = false)
    (hheader : HeaderBounds s) (hout : LowOnlyForwarding s) (hie : s.ie = true) :
    CycleInv (poll s) where
  legal := by simpa using hlegal
  settleArmed := by simpa using htimed.settleArmed
  confirmArmed := by simpa using htimed.confirmArmed
  confirmAfterSettle hs hc := by
    simp only [poll_deb, poll_params] at hs hc ⊢
    have hconfirm := (htimed.confirmAhead hc).2
    have horder := htimed.order hs
    exact (due_sub_lt_iff (outDelay_bounds hlegal).2
      ⟨htimed.settleAhead hs, horder.trans hconfirm⟩ hconfirm).2 horder
  settleAhead hs := by
    simp only [poll_deb, poll_params, poll_now] at hs ⊢
    exact ⟨htimed.settleAhead hs,
      (htimed.order hs).trans (htimed.confirmAhead (htimed.confirm_of_settle hs)).2⟩
  confirmAhead hc := by
    simp only [poll_deb, poll_params, poll_now] at hc ⊢
    exact htimed.confirmAhead hc
  levels := by simpa using htimed.levels
  noOverflow := by simpa using hovf
  modes := by simp
  header := poll_headerBounds hheader
  output := poll_lowOnlyForwarding hout
  enabled := by simpa using hie

/-- R38, the step of its induction over cycles: a `TOP.CYCLE` at any level keeps the invariants. -/
theorem cycleInv_cycle (lvl : Level) {s : State} (h : CycleInv s) : CycleInv (cycle lvl s) := by
  have hnow : (s.withClk s.clk.tick).now = s.now + 1 := s.clk.now_tick h.noOverflow
  have hticked : DebounceTimed s.params (s.withClk s.clk.tick).now 0 0 s.deb := by
    rw [hnow]
    exact (debounceTimed_of_cycleInv h).tick
  obtain ⟨htimed, hovf, hsame⟩ := serviceInterrupts_timed (s := s.withClk s.clk.tick) lvl h.enabled
    (outDelay_bounds h.legal).2 hticked
  refine cycleInv_poll ?_ ?_ hovf ?_ ?_ ?_
  · simpa using h.legal
  · simpa [hsame] using htimed
  · simpa [headerBounds_iff] using h.header
  · simpa [LowOnlyForwarding] using h.output
  · simpa using h.enabled

/-- R37, R38: under legal parameters a reset establishes the invariants, whatever was before. -/
theorem cycleInv_resetRegisters (lvl : Level) (mask : BitVec 7) (id : BitVec 8) {s : State}
    (hlegal : paramsLegal s.params = true) : CycleInv (resetRegisters lvl mask id s) where
  legal := hlegal
  settleArmed := by simp [resetRegisters]
  confirmArmed := by simp [resetRegisters]
  confirmAfterSettle h := by simp [resetRegisters] at h
  settleAhead h := by simp [resetRegisters] at h
  confirmAhead h := by simp [resetRegisters] at h
  levels := rfl
  noOverflow := rfl
  modes := rfl
  header := regsBounded_of_not_header (by simp [resetRegisters]) (by simp [resetRegisters])
  output h := by simp [resetRegisters] at h
  enabled := rfl

/-- R38 speaks of registers and parameters: not of the ports and not of the queue. -/
theorem cycleInv_withStim {s : State} (h : CycleInv s) (w : List Stim) : CycleInv (s.withStim w) :=
  { h with }

theorem cycleInv_withPorts {s : State} (h : CycleInv s) (p : Ports) : CycleInv (s.withPorts p) :=
  { h with }

/-- R71, log 14: the operations that are a rising edge of the clock, a cycle or a reset. -/
def IsEdge (i : Instr) : Prop :=
  (∃ lvl, i = .topCycle lvl) ∨ ∃ lvl mask id, i = .sysReset lvl mask id

/-- R71: a word the environment may apply is an edge. -/
theorem isEdge_of_environmentWord {P : Params} {c : DecoderContext} {w : Stim} {i : Instr}
    (hw : isEnvironmentWord w = true) (h : decode P c w = .ok [i]) : IsEdge i := by
  rcases decode_environmentWord hw h with ⟨lvl, hi⟩ | ⟨lvl, mask, id, hi⟩
  · exact .inl ⟨lvl, List.singleton_inj.1 hi⟩
  · exact .inr ⟨lvl, mask, id, List.singleton_inj.1 hi⟩

/-- R212: an edge under `rst = 1` is a reset, and so an edge. -/
theorem IsEdge.underReset {i : Instr} (hi : IsEdge i) (p : Ports) : IsEdge (underReset p i) := by
  rcases hi with ⟨lvl, rfl⟩ | hreset
  · cases hrst : p.rst with
    | true => exact .inr ⟨_, _, _, underReset_topCycle_of_high hrst lvl⟩
    | false => exact .inl ⟨lvl, underReset_of_low hrst _⟩
  · obtain ⟨lvl, mask, id, rfl⟩ := hreset
    exact .inr ⟨lvl, mask, id, rfl⟩

/-- R38 over one edge, with the levels its word drives: the invariants stay and so does the queue. -/
theorem cycleInv_edge {i : Instr} (hi : IsEdge i) {s t : State} (h : CycleInv s)
    (hrun : execAll [i] s = .next t) : CycleInv t ∧ t.stim = s.stim := by
  rw [execAll_singleton, present_eq] at hrun
  have hports : CycleInv (s.withPorts (present i s).ports) := cycleInv_withPorts h _
  rcases hi with ⟨lvl, rfl⟩ | ⟨lvl, mask, id, rfl⟩
  · obtain rfl := Host.Outcome.next.inj hrun
    exact ⟨cycleInv_cycle lvl hports, cycle_stim lvl _⟩
  · obtain rfl := resetRegisters_of_exec_next hrun
    exact ⟨cycleInv_resetRegisters lvl mask id hports.legal, rfl⟩

/-- Settles O50: under its environment a step is one edge, and takes at most the word it delivers from
the queue. -/
theorem stepKeepsCycleInvariants : Obligations.StepKeepsCycleInvariants := by
  unfold Obligations.StepKeepsCycleInvariants
  intro s t h henv hstep
  rcases step_next_cases hstep with ⟨-, hrun⟩ | ⟨w, rest, hstim, hword⟩
  · have hedge : IsEdge (clockEdge s) := IsEdge.underReset (.inl ⟨_, rfl⟩) s.ports
    obtain ⟨hinv, hqueue⟩ := cycleInv_edge hedge h hrun
    exact ⟨hinv, by simpa [EnvDriven, hqueue] using henv⟩
  · simp only [EnvDriven, hstim, List.forall_mem_cons] at henv
    obtain ⟨hw, hrest⟩ := henv
    rcases hword with ⟨i, hdec, -, hrun⟩ | ⟨hinterval, -⟩
    · have hedge : IsEdge (underReset s.ports i) :=
        (isEdge_of_environmentWord hw hdec).underReset s.ports
      obtain ⟨hinv, hqueue⟩ := cycleInv_edge hedge (cycleInv_withStim h rest) hrun
      exact ⟨hinv, by simpa [EnvDriven, hqueue] using hrest⟩
    · rw [hw] at hinterval
      cases hinterval

/-! ## The reset state (10_state.md R37, 70_reset_and_hazards.md R210) -/

/-- R212: a reset with the default inputs leaves of the previous state what is the environment's, and
those are `State.reset`'s own at the defaults of R31 and R210. -/
theorem resetRegisters_defaults {s : State} (hparams : s.params = referenceParams)
    (hports : s.ports = State.reset.ports) (hstim : s.stim = []) :
    resetRegisters true defaultCfgMask defaultCfgId s = State.reset := by
  simp [resetRegisters, hparams, hports, hstim, State.reset, latchConfig]

/-- Settles O49: `State.reset` is what a reset of it gives, and a reset establishes R38. -/
theorem resetMeetsCycleInvariants : Obligations.ResetMeetsCycleInvariants := by
  unfold Obligations.ResetMeetsCycleInvariants
  have hinv : CycleInv State.reset := by
    rw [← resetRegisters_defaults (s := State.reset) rfl rfl rfl]
    exact cycleInv_resetRegisters _ _ _ (by decide : paramsLegal referenceParams = true)
  refine ⟨hinv, ?_, hinv.header, ?_⟩
  · simp [OutputFollows, State.reset]
  · simp [EnvDriven, State.reset]

/-- Settles O52: the reference parameters load every device id, and the reset writes every register. -/
theorem resetStateIsSysResetOfDefaults : Obligations.ResetStateIsSysResetOfDefaults := by
  unfold Obligations.ResetStateIsSysResetOfDefaults
  intro s hparams hports hstim
  have haccepted : refusesId s.params defaultCfgId = false := by
    rw [hparams]
    rfl
  calc exec (.sysReset true defaultCfgMask defaultCfgId) s
      = .next (resetRegisters true defaultCfgMask defaultCfgId s) := by simp [haccepted]
    _ = .next State.reset := by rw [resetRegisters_defaults hparams hports hstim]

end Sys2Proof.Proofs

namespace Sys2Proof.Proofs

open Sys2Proof.Machine

/-! ## Who writes what (20_memory.md R41) -/

/-- A handler applied directly, masked or not, writes the debouncer alone. -/
theorem applyHandler_frame (body : DebouncerRegs → DebouncerRegs) (s : State) :
    applyHandler body s = s.withDeb (applyHandler body s).deb := by
  unfold applyHandler
  split <;> rfl

/-- A rule of R72's table, selected or not, writes the decoder alone. -/
theorem applyRule_frame (i : Instr) (effect : DecoderRegs → DecoderRegs) (s : State) :
    applyRule i effect s = s.withDec (applyRule i effect s).dec := by
  unfold applyRule
  split <;> rfl

/-- R41 read by operation: the registers `i` may write in `s`, as the shape of every state it can leave.
A reset (R210) is left open. -/
inductive OwnerFrame (s : State) : Instr → State → Prop
  | clock {i : Instr} (hi : i = .clkTick ∨ i = .clkOvf) (c : ClockRegs) :
      OwnerFrame s i (s.withClk c)
  | debouncer {i : Instr} (hi : i = .debSettle ∨ ∃ lvl, i = .debEdge lvl ∨ i = .debConfirm lvl)
      (r : DebouncerRegs) : OwnerFrame s i (s.withDeb r)
  | poll (m : SamplerRegs) (r : DecoderRegs) (v : Level) :
      OwnerFrame s .smpPoll (((s.withSmp m).withDec r).withOutN v)
  | decoder {i : Instr} (hi : (∃ m d, i = .decStep m d) ∨ (ruleInterval i).isSome = true)
      (r : DecoderRegs) : OwnerFrame s i (s.withDec r)
  | output (v : Level) : OwnerFrame s .outDrive (s.withOutN v)
  | cycle (lvl : Level) (c : ClockRegs) (b : DebouncerRegs) (m : SamplerRegs) (r : DecoderRegs)
      (v : Level) :
      OwnerFrame s (.topCycle lvl) { s with clk := c, deb := b, smp := m, dec := r, outN := v }
  | configuration (mask : BitVec 7) (id : BitVec 8) (x : ConfigRegs) :
      OwnerFrame s (.sysCfgload mask id) (s.withCfg x)
  | interruptEnable {i : Instr} (hi : i = .sysCli ∨ ∃ saved, i = .sysRestore saved) (b : Bool)
      (v : ReturnValue) : OwnerFrame s i ((s.withIe b).withRet v)
  | answer {i : Instr} (hi : i = .clkNow ∨ i = .outAuth) (v : ReturnValue) :
      OwnerFrame s i (s.withRet v)
  | reset (lvl : Level) (mask : BitVec 7) (id : BitVec 8) (t : State) :
      OwnerFrame s (.sysReset lvl mask id) t

/-- R72: a decoder rule is always answered, and writes the decoder alone. -/
theorem exec_rule_frame {i : Instr} (hi : (ruleInterval i).isSome = true) {s t : State}
    (h : exec i s = .next t) : t = s.withDec t.dec := by
  cases i with
  | decGap | decIdleLead | decIdleNop | decHdrCount | decHdrParity | decHdrSync | decHdrBitp
  | decHdrResync | decHdrBit0 | decHdrBit1 | decHdrBadbit | decHdrDone | decBypass | decPass =>
    obtain rfl := Host.Outcome.next.inj h
    exact applyRule_frame _ _ s
  | _ => cases hi

/-- R41: what an operation that answers a next state can have written. -/
theorem exec_ownerFrame {i : Instr} {s t : State} (h : exec i s = .next t) : OwnerFrame s i t := by
  by_cases hrule : (ruleInterval i).isSome = true
  · rw [exec_rule_frame hrule h]
    exact .decoder (.inr hrule) _
  cases i with
  | clkTick =>
    obtain rfl := Host.Outcome.next.inj h
    exact .clock (.inl rfl) _
  | clkOvf =>
    obtain rfl := Host.Outcome.next.inj h
    split
    · exact .clock (.inr rfl) _
    · exact .clock (.inr rfl) s.clk
  | debEdge lvl =>
    obtain rfl := Host.Outcome.next.inj h
    rw [applyHandler_frame]
    exact .debouncer (.inr ⟨lvl, .inl rfl⟩) _
  | debSettle =>
    obtain rfl := Host.Outcome.next.inj h
    rw [applyHandler_frame]
    exact .debouncer (.inl rfl) _
  | debConfirm lvl =>
    obtain rfl := Host.Outcome.next.inj h
    rw [applyHandler_frame]
    exact .debouncer (.inr ⟨lvl, .inr rfl⟩) _
  | smpPoll =>
    obtain rfl := Host.Outcome.next.inj h
    rw [poll_frame]
    exact .poll _ _ _
  | decStep m d =>
    obtain rfl := Host.Outcome.next.inj h
    exact .decoder (.inl ⟨m, d, rfl⟩) _
  | outDrive =>
    obtain rfl := Host.Outcome.next.inj h
    exact .output _
  | topCycle lvl =>
    obtain rfl := Host.Outcome.next.inj h
    rw [cycle_frame]
    exact .cycle lvl _ _ _ _ _
  | sysCfgload mask id =>
    rw [exec_sysCfgload] at h
    split at h <;> cases h
    exact .configuration mask id _
  | sysCli =>
    obtain rfl := Host.Outcome.next.inj h
    exact .interruptEnable (.inl rfl) _ _
  | sysRestore saved =>
    obtain rfl := Host.Outcome.next.inj h
    exact .interruptEnable (.inr ⟨saved, rfl⟩) saved s.ret
  | clkNow =>
    obtain rfl := Host.Outcome.next.inj h
    exact .answer (.inl rfl) _
  | outAuth =>
    obtain rfl := Host.Outcome.next.inj h
    exact .answer (.inr rfl) _
  | sysReset lvl mask id => exact .reset lvl mask id t
  | sysDiag value => cases h
  | _ => exact absurd rfl hrule

/-- Settles O46: a register that changed lies in the frame of the operation, so its owner applied it. -/
theorem onlyOwnersWrite : Obligations.OnlyOwnersWrite := by
  unfold Obligations.OnlyOwnersWrite
  intro i s t h
  cases exec_ownerFrame h with
  | reset lvl mask id => exact .inl ⟨lvl, mask, id, rfl⟩
  | clock hi => rcases hi with rfl | rfl <;> simp
  | debouncer hi => rcases hi with rfl | ⟨lvl, rfl | rfl⟩ <;> simp
  | decoder hi =>
    rcases hi with ⟨m, d, rfl⟩ | hrule
    · simp
    · simp [hrule]
  | interruptEnable hi => rcases hi with rfl | ⟨saved, rfl⟩ <;> simp
  | poll | output | cycle | configuration | answer => simp

end Sys2Proof.Proofs

namespace Sys2Proof.Proofs

open Sys2Proof.Machine

/-! ## Codes and words are read back (30_encoding.md R60 to R64, R70) -/

@[simp] theorem modeOfBit_modeBit (m : Mode) : modeOfBit (modeBit m) = m := by cases m <;> rfl

theorem activityOfCode_activityCode (a : Activity) : activityOfCode (activityCode a) = some a := by
  cases a <;> rfl

theorem decoderStateOfCode_decoderStateCode (st : DecoderState) :
    decoderStateOfCode (decoderStateCode st) = st := by
  cases st <;> rfl

/-- Settles O58: the numbers of the three tables, then each table read back. -/
theorem enumerationCodesRoundTrip : Obligations.EnumerationCodesRoundTrip := by
  unfold Obligations.EnumerationCodesRoundTrip
  exact ⟨⟨rfl, rfl⟩, ⟨rfl, rfl, rfl⟩, ⟨rfl, rfl, rfl, rfl⟩, modeOfBit_modeBit,
    activityOfCode_activityCode, by decide, decoderStateOfCode_decoderStateCode, by decide⟩

/-! The fields of an Interval word (R63). -/

@[simp] theorem intervalMode_intervalWord (m : Mode) (d : Duration) :
    intervalMode (intervalWord m d) = m := by
  rw [intervalMode, intervalWord, BitVec.getLsbD_append]
  simp

@[simp] theorem intervalDuration_intervalWord (m : Mode) (d : Duration) :
    intervalDuration (intervalWord m d) = d := BitVec.extractLsb'_append_eq_right

/-! The fields of a configuration word (R64). -/

@[simp] theorem cfgWordMask_cfgWord (mask : BitVec 7) (id : BitVec 8) :
    cfgWordMask (cfgWord mask id) = mask := BitVec.extractLsb'_append_eq_left

@[simp] theorem cfgWordId_cfgWord (mask : BitVec 7) (id : BitVec 8) :
    cfgWordId (cfgWord mask id) = id := BitVec.extractLsb'_append_eq_right

/-! The fields of an event byte (R70). -/

@[simp] theorem eventByte_padding (op : BitVec 4) (lvl : Level) :
    (eventByte op lvl).extractLsb' 5 3 = 0 := by
  revert op
  cases lvl <;> decide

@[simp] theorem eventOp_eventByte (op : BitVec 4) (lvl : Level) :
    eventOp (eventByte op lvl) = op := by
  revert op
  cases lvl <;> decide

@[simp] theorem eventLevel_eventByte (op : BitVec 4) (lvl : Level) :
    eventLevel (eventByte op lvl) = lvl := by
  revert op
  cases lvl <;> decide

/-! The operand of an event, and an Interval, in their five bytes (log 9). -/

/-- A word of `n` bits has no bit set above them. -/
theorem setWidth_ushiftRight_eq_zero {n width k : Nat} (h : n ≤ width) (w : BitVec n) :
    w.setWidth k >>> width = 0 := by
  apply BitVec.eq_of_toNat_eq
  rw [BitVec.toNat_ushiftRight, BitVec.toNat_setWidth, Nat.shiftRight_eq_div_pow]
  refine Nat.div_eq_of_lt ?_
  calc w.toNat % 2 ^ k ≤ w.toNat := Nat.mod_le _ _
    _ < 2 ^ n := w.isLt
    _ ≤ 2 ^ width := Nat.pow_le_pow_right (by decide) h

/-- R70: an operand within the operand format of its operation is accepted. -/
theorem withOperand_setWidth {n width : Nat} (h : n ≤ width) (w : BitVec n)
    (make : BitVec 40 → Instr) :
    withOperand width (w.setWidth 40) make = .ok [make (w.setWidth 40)] := by
  simp [withOperand, setWidth_ushiftRight_eq_zero h]

/-- R70: an operation without an operand has the operand word 0. -/
theorem withOperand_zero (make : BitVec 40 → Instr) : withOperand 0 0#40 make = .ok [make 0] := rfl

/-- Settles O55: the event byte gives the code and the level back, and the operand word its fields. -/
theorem eventWordsRoundTrip : Obligations.EventWordsRoundTrip := by
  unfold Obligations.EventWordsRoundTrip
  intro P c i hi
  cases i with
  | clkTick | debEdge | debSettle | debConfirm | clkOvf | clkNow | smpPoll | outAuth | outDrive
  | topCycle | sysCli => simp [decode, encode, decodeEvent, withOperand_zero]
  | decStep | sysReset | sysCfgload | sysRestore | sysDiag =>
    simp [decode, encode, decodeEvent, withOperand_setWidth]
  | _ => cases hi

/-- Settles O57: each event word is the word of its operation; the Interval word is read at position 1
of a header. -/
theorem vectorWordsDecode : Obligations.VectorWordsDecode := by
  unfold Obligations.VectorWordsDecode
  intro P c
  have hword : ∀ {w : Stim} {i : Instr}, ruleInterval i = none → encode i = w →
      decode P c w = .ok [i] := by
    rintro _ i hi rfl
    exact eventWordsRoundTrip P c i hi
  refine ⟨hword rfl rfl, hword rfl rfl, hword rfl rfl, hword rfl rfl, hword rfl rfl, hword rfl rfl,
    hword rfl rfl, hword rfl rfl, hword rfl rfl, hword rfl rfl, hword rfl rfl, hword rfl rfl,
    hword rfl rfl, hword rfl rfl, hword rfl rfl, hword rfl rfl, hword rfl rfl, hword rfl rfl,
    hword rfl rfl, hword rfl rfl, hword rfl rfl, hword rfl rfl, ?_⟩
  decide

/-! ## The rules an Interval word stands for (30_encoding.md R72) -/

/-- R63: all rules of one Interval have one word. -/
theorem encode_rule {i : Instr} {m : Mode} {d : Duration} (h : ruleInterval i = some (m, d)) :
    encode i = encodeInterval m d := by
  cases i <;> cases h <;> rfl

/-- R63: an Interval word is read as the Interval it was made from. -/
theorem decode_encodeInterval (P : Params) (c : DecoderContext) (m : Mode) (d : Duration) :
    decode P c (encodeInterval m d) = .ok (selectRules P c m d) := by
  have hpad : (intervalWord m d).setWidth 40 >>> 33 = 0 :=
    setWidth_ushiftRight_eq_zero (Nat.le_refl 33) _
  simp [decode, encodeInterval, decodeInterval, hpad]

/-- R72: what is selected for an Interval are rules of that Interval. -/
theorem ruleInterval_eq_of_mem_selectRules {P : Params} {c : DecoderContext} {m : Mode}
    {d : Duration} {i : Instr} (h : i ∈ selectRules P c m d) : ruleInterval i = some (m, d) := by
  have hcand : ∀ j ∈ candidateRules m d, ruleInterval j = some (m, d) := by
    cases m <;> simp [candidateRules, ruleInterval]
  simp only [selectRules, List.mem_append, List.mem_filter] at h
  rcases h with (h | h) | ⟨h, -⟩
  · obtain ⟨hgap, rfl⟩ : isGapInterval P m d = true ∧ i = .decGap d := by simpa using h
    obtain ⟨rfl, -⟩ : m = .space ∧ isGap P d = true := by simpa [isGapInterval] using hgap
    rfl
  · obtain ⟨-, rfl⟩ : (if isGapInterval P m d then .idle else c.decState) = DecoderState.header ∧
        i = .decHdrCount m d := by simpa only [List.mem_ite_nil_right, List.mem_singleton] using h
    rfl
  · exact hcand i h

/-- R72: a rule of the Interval `{m, d}` is the pre-check's, the count, or a row of the second table. -/
theorem rule_cases {i : Instr} {m : Mode} {d : Duration} (h : ruleInterval i = some (m, d)) :
    (m = .space ∧ i = .decGap d) ∨ i = .decHdrCount m d ∨ i ∈ candidateRules m d := by
  cases i <;> cases h <;> simp [candidateRules]

/-- R72: a rule that applies to the Interval is among those selected. -/
theorem mem_selectRules {P : Params} {c : DecoderContext} {m : Mode} {d : Duration} {i : Instr}
    (hi : ruleInterval i = some (m, d))
    (hsel : ruleSelected P (if isGapInterval P m d then .idle else c.decState) (c.hdrCnt + 1) i =
      true) : i ∈ selectRules P c m d := by
  simp only [selectRules, List.mem_append, List.mem_filter]
  rcases rule_cases hi with ⟨rfl, rfl⟩ | rfl | hcand
  · have hgap : isGap P d = true := by simpa [ruleSelected, Instr.wellFormed] using hsel
    exact .inl (.inl (by simp [isGapInterval, hgap]))
  · refine .inl (.inr ?_)
    simp only [ruleSelected, Bool.and_eq_true, decide_eq_true_eq] at hsel
    rw [if_pos hsel.2]
    exact List.mem_singleton.2 rfl
  · exact .inr ⟨hcand, hsel⟩

/-- Settles O56: the word is its Interval's, and the Interval is read back before R72 selects. -/
theorem intervalWordsRoundTrip : Obligations.IntervalWordsRoundTrip := by
  unfold Obligations.IntervalWordsRoundTrip
  intro P c i m d hi hsel
  refine ⟨selectRules P c m d, ?_, mem_selectRules hi hsel, fun j hj =>
    ruleInterval_eq_of_mem_selectRules hj⟩
  rw [encode_rule hi, decode_encodeInterval]

/-- Settles O20: both sides are one decoder step. -/
theorem selectedRulesAreTheStep : Obligations.SelectedRulesAreTheStep := by
  unfold Obligations.SelectedRulesAreTheStep
  intro s m d
  rw [execAll_selectRules, exec_decStep]

/-- A state with given parameters whose decoder stands in `st` at the position `pos`. -/
def stateAt (P : Params) (st : DecoderState) (pos : BitVec 8) : State :=
  { State.reset with params := P, dec := { decState := st, hdrCnt := pos, addrAcc := 0 } }

/-- Settles O21: in each state of the decoder one row runs, and it is the only one selected. -/
theorem exactlyOneRuleApplies : Obligations.ExactlyOneRuleApplies := by
  unfold Obligations.ExactlyOneRuleApplies
  intro P st pos m d hpre
  have hgap : st ≠ .idle → isGapInterval P m d = false := by
    intro hst
    have hnone : m = .space → ¬P.tGap < d.toNat := fun hm hlong => hst (hpre hm hlong)
    simpa [isGapInterval, isGap] using hnone
  cases st with
  | idle =>
    obtain ⟨i, hi, -⟩ := idleRule_runs (stateAt P .idle pos) m d pos rfl
    exact ⟨i, hi⟩
  | header =>
    obtain ⟨i, hi, -⟩ :=
      headerRule_runs (s := stateAt P .header pos) rfl (hgap DecoderState.noConfusion)
    exact ⟨i, hi⟩
  | bypass =>
    obtain ⟨i, hi, -⟩ :=
      terminalRule_runs (stateAt P .bypass pos) m d pos (.inl rfl) (hgap DecoderState.noConfusion)
    exact ⟨i, hi⟩
  | passthrough =>
    obtain ⟨i, hi, -⟩ :=
      terminalRule_runs (stateAt P .passthrough pos) m d pos (.inr rfl)
        (hgap DecoderState.noConfusion)
    exact ⟨i, hi⟩

/-- Log 7: every decoder rule is applied through the guard of its selection. -/
theorem exec_rule_guarded {i : Instr} (hi : (ruleInterval i).isSome = true) (s : State) :
    ∃ effect, exec i s = .next (applyRule i effect s) := by
  cases i with
  | decGap | decIdleLead | decIdleNop | decHdrCount | decHdrParity | decHdrSync | decHdrBitp
  | decHdrResync | decHdrBit0 | decHdrBit1 | decHdrBadbit | decHdrDone | decBypass | decPass =>
    exact ⟨_, rfl⟩
  | _ => cases hi

/-- Settles O33, by the guard. -/
theorem unselectedRulesAreNotApplied : Obligations.UnselectedRulesAreNotApplied := by
  unfold Obligations.UnselectedRulesAreNotApplied
  intro s i hi hsel
  obtain ⟨effect, hrun⟩ := exec_rule_guarded hi s
  rw [hrun, applyRule_of_not_selected effect hsel]

end Sys2Proof.Proofs

namespace Sys2Proof.Proofs

open Sys2Proof.Machine

/-! ## A reserved device id never forwards (30_encoding.md R73 (a)) -/

/-- R174: a run of cycles completes, and keeps whatever every cycle keeps and the ports do not matter
to. -/
theorem execAll_cycles {Q : State → Prop} (hports : ∀ s p, Q s → Q (s.withPorts p))
    (hcycle : ∀ lvl s, Q s → Q (cycle lvl s)) (lvls : List Level) {s : State} (hs : Q s) :
    ∃ t, execAll (lvls.map fun l => .topCycle l) s = .next t ∧ Q t := by
  induction lvls generalizing s with
  | nil => exact ⟨s, rfl, hs⟩
  | cons lvl lvls ih =>
    obtain ⟨t, hrun, ht⟩ := ih (hcycle lvl _ (hports s { s.ports with rfIn := lvl } hs))
    exact ⟨t, hrun, ht⟩

section Reserved

variable {id : BitVec 8}

/-- R73 (a), R141: the verdict under a reserved id. -/
theorem resolve_reserved (hid : isReservedId id = true) (mask : BitVec 7) (a : BitVec 16) :
    resolve id mask a = .bypass := by
  simp only [isReservedId, decide_eq_true_eq] at hid
  have hzero : id ≠ 0 := by
    rintro rfl
    simp at hid
  have hbase : ¬(1 ≤ id.toNat ∧ id.toNat ≤ 15) := by omega
  rw [resolve, if_neg hzero, if_neg hbase]

/-- R73 (a), R160: under a reserved id PASSTHROUGH alone would forward. -/
theorem fwd_reserved (hid : isReservedId id = true) (st : DecoderState) :
    fwd st id = decide (st = .passthrough) := by
  simp only [isReservedId, decide_eq_true_eq] at hid
  have h255 : id ≠ 255 := by
    rintro rfl
    simp at hid
  have h254 : id ≠ 254 := by
    rintro rfl
    simp at hid
  rw [fwd, if_neg h255, if_neg h254]

end Reserved

section NoPassthrough

variable {cfg : ConfigRegs} {r : DecoderRegs}

/-- R134 to R140: a header ends in PASSTHROUGH by a verdict alone. -/
theorem headerArm_ne_passthrough (hid : isReservedId cfg.cfgId = true) (P : Params) (m : Mode)
    (d : Duration) (hst : r.decState = .header) :
    (r.headerArm P cfg m d).decState ≠ .passthrough := by
  rcases r.headerArm_cases P cfg m d with
    h | ⟨-, h, -⟩ | ⟨-, -, h⟩ | ⟨-, -, h⟩ | ⟨-, -, b, h⟩ <;> rw [h]
  · simp
  · simp [hst]
  · simp [hst]
  · simp [DecoderRegs.conclude, resolve_reserved hid]
  · simp [DecoderRegs.shiftBit, hst]

/-- R73 (a): under a reserved id no decoder step enters PASSTHROUGH. -/
theorem decoderRegs_step_ne_passthrough (hid : isReservedId cfg.cfgId = true) (P : Params) (m : Mode)
    (d : Duration) (hst : r.decState ≠ .passthrough) :
    (r.step P cfg m d).decState ≠ .passthrough := by
  rcases r.step_cases P cfg m d with
    ⟨-, h⟩ | ⟨-, -, -, h⟩ | ⟨-, -, -, h⟩ | ⟨-, hheader, h⟩ | ⟨-, -, h⟩ <;> rw [h]
  · simp [DecoderRegs.forceIdle]
  · simp [DecoderRegs.enterHeader]
  · exact hst
  · exact headerArm_ne_passthrough hid P m d hheader
  · exact hst

end NoPassthrough

/-- R41: a poll and a cycle leave the latched configuration. -/
@[simp] theorem poll_cfg (s : State) : (poll s).cfg = s.cfg := by rw [poll_frame]; rfl

@[simp] theorem cycle_cfg (lvl : Level) (s : State) : (cycle lvl s).cfg = s.cfg := by
  rw [cycle_frame]

/-- R170: in a cycle the poll alone touches the decoder, by one step at most. -/
theorem cycle_ne_passthrough (lvl : Level) {s : State} (hid : isReservedId s.cfg.cfgId = true)
    (hst : s.dec.decState ≠ .passthrough) : (cycle lvl s).dec.decState ≠ .passthrough := by
  rw [cycle]
  rcases poll_cases (serviceInterrupts lvl (s.withClk s.clk.tick)) with ⟨-, h⟩ | ⟨-, h⟩ <;> rw [h]
  · simpa using hst
  · exact decoderRegs_step_ne_passthrough (by simpa using hid) _ _ _ (by simpa using hst)

/-- What R73 (a) keeps from cycle to cycle: the invariants of R38, the reserved id, and the decoder out
of PASSTHROUGH. -/
structure ReservedInv (s : State) : Prop where
  inv : CycleInv s
  reserved : isReservedId s.cfg.cfgId = true
  notPassthrough : s.dec.decState ≠ .passthrough

theorem reservedInv_withPorts {s : State} (h : ReservedInv s) (p : Ports) :
    ReservedInv (s.withPorts p) := ⟨cycleInv_withPorts h.inv p, h.reserved, h.notPassthrough⟩

theorem reservedInv_cycle (lvl : Level) {s : State} (h : ReservedInv s) :
    ReservedInv (cycle lvl s) where
  inv := cycleInv_cycle lvl h.inv
  reserved := by simpa using h.reserved
  notPassthrough := cycle_ne_passthrough lvl h.reserved h.notPassthrough

/-- R38 (i) under a reserved id: nothing is forwarded, so the output is high. -/
theorem ReservedInv.outN {s : State} (h : ReservedInv s) : s.outN = true := by
  by_contra hlow
  obtain ⟨-, hfwd⟩ := h.inv.output (by simpa using hlow)
  exact h.notPassthrough (by simpa [fwd_reserved h.reserved] using hfwd)

/-- Settles O40, by the invariant `ReservedInv` over the run. -/
theorem reservedIdNeverForwards : Obligations.ReservedIdNeverForwards := by
  unfold Obligations.ReservedIdNeverForwards
  intro lvls s hinv hlow hhigh hst
  have hs : ReservedInv s := ⟨hinv, by simp [isReservedId, hlow, hhigh], hst⟩
  obtain ⟨t, hrun, ht⟩ := execAll_cycles (Q := ReservedInv)
    (fun _ p h => reservedInv_withPorts h p) (fun lvl _ h => reservedInv_cycle lvl h) lvls hs
  exact ⟨t, hrun, ht.outN, ht.notPassthrough⟩

end Sys2Proof.Proofs

namespace Sys2Proof.Proofs

open Sys2Proof.Machine

/-! ## The decoder's arms as equations (43_decoder.md R127, R133 to R140) -/

section Arms

variable {P : Params} {cfg : ConfigRegs} {m : Mode} {d : Duration} {r : DecoderRegs}

/-- R127. -/
theorem step_of_lead (hst : r.decState = .idle) (hlead : inRange d P.tLead = true) :
    r.step P cfg .pulse d = { decState := .header, hdrCnt := 0, addrAcc := 0 } := by
  simp [DecoderRegs.step, isGapInterval, hst, isLeadInterval, hlead, DecoderRegs.enterHeader]

/-- R129. -/
theorem step_of_header (hgap : isGapInterval P m d = false) (hst : r.decState = .header) :
    r.step P cfg m d = r.count.headerArm P cfg m d := by
  simp [DecoderRegs.step, hgap, hst]

/-- R133: a second-stage Interval in its window. -/
theorem headerArm_sync (hm : requiredMode r.hdrCnt = m) (hs : isSyncPosition r.hdrCnt = true)
    (hwindow : inRange d P.tSync = true) : r.headerArm P cfg m d = r := by
  simp [DecoderRegs.headerArm, hm, hs, hwindow]

/-- R134, R135, R140: a bit pulse in its window. -/
theorem headerArm_bitPulse (hm : requiredMode r.hdrCnt = .pulse)
    (hs : isSyncPosition r.hdrCnt = false) (hwindow : inRange d P.tBitp = true) :
    r.headerArm P cfg .pulse d =
      if isResyncPosition r.hdrCnt then r.restartAddress
      else if r.hdrCnt = hdrTotal then r.conclude cfg else r := by
  simp [DecoderRegs.headerArm, hm, hs, hwindow]

/-- R4 (a): no duration is in the windows of both bit values. -/
theorem not_inRange_tZero (hlegal : paramsLegal P = true) (hone : inRange d P.tOne = true) :
    inRange d P.tZero = false := by
  simp only [paramsLegal, Bool.and_eq_true, decide_eq_true_eq] at hlegal
  obtain ⟨⟨⟨-, hwindows⟩, -⟩, -⟩ := hlegal
  simp only [inRange, Bool.and_eq_true, decide_eq_true_eq] at hone
  simp only [inRange, Bool.and_eq_false_iff, decide_eq_false_iff_not]
  omega

/-- R136, R137: the SPACE of a bit in the window of that bit. -/
theorem headerArm_bitSpace (hlegal : paramsLegal P = true) (hm : requiredMode r.hdrCnt = .space)
    (hs : isSyncPosition r.hdrCnt = false) (b : Bool)
    (hwindow : inRange d (if b then P.tOne else P.tZero) = true) :
    r.headerArm P cfg .space d = r.shiftBit b := by
  cases b with
  | false => simp_all [DecoderRegs.headerArm]
  | true =>
    have hone : inRange d P.tOne = true := hwindow
    simp [DecoderRegs.headerArm, hm, hs, hone, not_inRange_tZero hlegal hone]

end Arms

/-! ## The positions of a header as numbers (30_encoding.md R65) -/

section Positions

variable {pos : Nat}

theorem toNat_position (h : pos ≤ 70) : (BitVec.ofNat 8 pos).toNat = pos := by
  rw [BitVec.toNat_ofNat]
  omega

theorem requiredMode_ofNat (h : pos ≤ 70) :
    requiredMode (BitVec.ofNat 8 pos) = if pos % 2 = 0 then .pulse else .space := by
  rw [requiredMode, toNat_position h]

theorem isSyncPosition_ofNat (h : pos ≤ 70) :
    isSyncPosition (BitVec.ofNat 8 pos) = decide (1 ≤ pos ∧ pos ≤ 3) := by
  rw [isSyncPosition, toNat_position h]

theorem isResyncPosition_ofNat (h : pos ≤ 70) :
    isResyncPosition (BitVec.ofNat 8 pos) = decide (pos = 4 ∨ pos = 26 ∨ pos = 48) := by
  have hval : ∀ n < 256, (BitVec.ofNat 8 pos = BitVec.ofNat 8 n ↔ pos = n) := by
    intro n hn
    rw [← BitVec.toNat_inj, toNat_position h, BitVec.toNat_ofNat, Nat.mod_eq_of_lt hn]
  simp [isResyncPosition, resyncPositions, hval]

theorem ofNat_eq_hdrTotal_iff (h : pos ≤ 70) : BitVec.ofNat 8 pos = hdrTotal ↔ pos = 70 := by
  rw [← BitVec.toNat_inj, toNat_position h]
  rfl

end Positions

/-! ## The accumulator over the three copies of the address (30_encoding.md R66, R67) -/

/-- The first `j` bits of an address, the most significant first. -/
def addressPrefix (a : BitVec 11) (j : Nat) : BitVec 16 := a.setWidth 16 >>> (11 - j)

theorem addressPrefix_zero (a : BitVec 11) : addressPrefix a 0 = 0 :=
  setWidth_ushiftRight_eq_zero (Nat.le_refl 11) a

theorem addressPrefix_all (a : BitVec 11) : addressPrefix a 11 = a.setWidth 16 := by
  simp [addressPrefix]

theorem getLsbD_addressPrefix (a : BitVec 11) (j i : Nat) :
    (addressPrefix a j).getLsbD i = a.getLsbD (11 - j + i) := by
  have hwidth : a.getLsbD (11 - j + i) = true → 11 - j + i < 16 := fun h => by
    have := BitVec.lt_of_getLsbD h
    omega
  simpa [addressPrefix] using hwidth

/-- R67: the new bit stands lowest, the others one place higher. -/
theorem getLsbD_shiftIn (acc : BitVec 16) (b : Bool) {i : Nat} (hi : i < 16) :
    (shiftIn acc b).getLsbD i = if i = 0 then b else acc.getLsbD (i - 1) := by
  cases i with
  | zero => cases b <;> simp [shiftIn, shl1]
  | succ i =>
    have hlt : i < 16 := Nat.lt_of_succ_lt hi
    cases b <;> simp [shiftIn, shl1, hi, BitVec.getLsbD_eq_getElem hlt]

/-- R67: one more bit shifted in. -/
theorem shiftIn_addressPrefix (a : BitVec 11) {j : Nat} (h : j ≤ 10) :
    shiftIn (addressPrefix a j) (a.getLsbD (10 - j)) = addressPrefix a (j + 1) := by
  apply BitVec.eq_of_getLsbD_eq
  intro i hi
  rw [getLsbD_shiftIn _ _ hi, getLsbD_addressPrefix, getLsbD_addressPrefix]
  split
  next hzero => rw [hzero, show 11 - (j + 1) + 0 = 10 - j by omega]
  next hpos => rw [show 11 - j + (i - 1) = 11 - (j + 1) + i by omega]

/-- R66: the copy whose bits the positions around `pos` carry. -/
def headerCopy (a0 a1 a2 : BitVec 11) (pos : Nat) : BitVec 11 :=
  if pos < 26 then a0 else if pos < 48 then a1 else a2

/-- How many bits of its copy have been decoded once the Interval at `pos` has ended: the Intervals of a
copy are 11 pairs of a PULSE and a SPACE, from position 4 on. -/
def bitsDecoded (pos : Nat) : Nat := ((pos - 4) % 22 + 1) / 2

/-- R66, R67: the accumulator once the Interval at `pos`, at most 69, has ended. -/
def headerAcc (a0 a1 a2 : BitVec 11) (pos : Nat) : BitVec 16 :=
  addressPrefix (headerCopy a0 a1 a2 pos) (bitsDecoded pos)

section Accumulator

variable (a0 a1 a2 : BitVec 11) {pos : Nat}

theorem headerBit_eq (pos : Nat) :
    headerBit a0 a1 a2 pos = (headerCopy a0 a1 a2 pos).getLsbD (10 - ((pos - 4) % 22 - 1) / 2) := rfl

/-- Before the first copy and where a copy starts no bit has been decoded. -/
theorem headerAcc_eq_zero (h : pos ≤ 4 ∨ pos = 26 ∨ pos = 48) : headerAcc a0 a1 a2 pos = 0 := by
  have hbits : bitsDecoded pos = 0 := by
    unfold bitsDecoded
    omega
  rw [headerAcc, hbits, addressPrefix_zero]

/-- The copy changes at the positions 26 and 48 only. -/
theorem headerCopy_succ (h26 : pos + 1 ≠ 26) (h48 : pos + 1 ≠ 48) :
    headerCopy a0 a1 a2 (pos + 1) = headerCopy a0 a1 a2 pos := by
  have hfirst : pos + 1 < 26 ↔ pos < 26 := by omega
  have hsecond : pos + 1 < 48 ↔ pos < 48 := by omega
  simp only [headerCopy, hfirst, hsecond]

/-- R134: a bit pulse that starts no copy brings no bit. -/
theorem headerAcc_succ_of_even (heven : (pos + 1) % 2 = 0) (h4 : 4 < pos + 1) (h69 : pos + 1 ≤ 69)
    (h26 : pos + 1 ≠ 26) (h48 : pos + 1 ≠ 48) :
    headerAcc a0 a1 a2 (pos + 1) = headerAcc a0 a1 a2 pos := by
  have hbits : bitsDecoded (pos + 1) = bitsDecoded pos := by
    unfold bitsDecoded
    omega
  rw [headerAcc, headerCopy_succ a0 a1 a2 h26 h48, hbits, headerAcc]

/-- R136, R137: the SPACE of a bit brings that bit. -/
theorem headerAcc_succ_of_odd (hodd : (pos + 1) % 2 = 1) (h4 : 4 < pos + 1) :
    headerAcc a0 a1 a2 (pos + 1) = shiftIn (headerAcc a0 a1 a2 pos) (headerBit a0 a1 a2 (pos + 1)) := by
  have hbits : bitsDecoded (pos + 1) = bitsDecoded pos + 1 := by
    unfold bitsDecoded
    omega
  have hindex : ((pos + 1 - 4) % 22 - 1) / 2 = bitsDecoded pos := by
    unfold bitsDecoded
    omega
  have hlt : bitsDecoded pos ≤ 10 := by
    unfold bitsDecoded
    omega
  rw [headerBit_eq, hindex, headerAcc, hbits, headerCopy_succ a0 a1 a2 (by omega) (by omega),
    headerAcc, shiftIn_addressPrefix _ hlt]

/-- The accumulator holds the whole of copy 2 before the last pulse. -/
theorem headerAcc_69 : headerAcc a0 a1 a2 69 = a2.setWidth 16 := addressPrefix_all a2

end Accumulator

/-! ## A header, Interval by Interval (30_encoding.md R65, 43_decoder.md R145) -/

/-- The decoder in HEADER at the position `pos`. -/
def headerAt (pos : Nat) (acc : BitVec 16) : DecoderRegs :=
  { decState := .header, hdrCnt := BitVec.ofNat 8 pos, addrAcc := acc }

/-- R129. -/
theorem headerAt_count (pos : Nat) (acc : BitVec 16) :
    (headerAt pos acc).count = headerAt (pos + 1) acc := by
  simp [headerAt, DecoderRegs.count, BitVec.ofNat_add]

section Header

variable {P : Params} {a0 a1 a2 : BitVec 11} {ds : Nat → Duration} {pos : Nat}

/-- R126, R145: a SPACE of a header is no gap. -/
theorem isGapInterval_header (h : IsHeader P a0 a1 a2 ds) (hpos : pos ≤ 70) :
    isGapInterval P (requiredMode (BitVec.ofNat 8 pos)) (ds pos) = false := by
  obtain ⟨-, hgap⟩ := h pos hpos
  rw [requiredMode_ofNat hpos]
  by_cases heven : pos % 2 = 0
  · simp [isGapInterval, heven]
  · simpa [isGapInterval, isGap, heven] using hgap (by omega)

/-- R129: in HEADER the Interval of the next position is counted and taken by the HEADER arm. -/
theorem headerAt_step (h : IsHeader P a0 a1 a2 ds) (hpos : pos + 1 ≤ 70) (cfg : ConfigRegs)
    (acc : BitVec 16) :
    (headerAt pos acc).step P cfg (requiredMode (BitVec.ofNat 8 (pos + 1))) (ds (pos + 1)) =
      (headerAt (pos + 1) acc).headerArm P cfg (requiredMode (BitVec.ofNat 8 (pos + 1)))
        (ds (pos + 1)) := by
  rw [step_of_header (isGapInterval_header h hpos) rfl, headerAt_count]

/-- R133: the second stage writes nothing more. -/
theorem headerAt_secondStage (h : IsHeader P a0 a1 a2 ds) (hfirst : 1 ≤ pos) (hlast : pos ≤ 3)
    (cfg : ConfigRegs) (acc : BitVec 16) :
    (headerAt pos acc).headerArm P cfg (requiredMode (BitVec.ofNat 8 pos)) (ds pos) =
      headerAt pos acc := by
  have hpos : pos ≤ 70 := by omega
  obtain ⟨hwindow, -⟩ := h pos hpos
  have hsync : isSyncPosition (headerAt pos acc).hdrCnt = true :=
    (isSyncPosition_ofNat hpos).trans (decide_eq_true ⟨hfirst, hlast⟩)
  rw [headerNominal, if_neg (by omega), if_pos hlast] at hwindow
  exact headerArm_sync rfl hsync hwindow

/-- R134, R135, R140: a bit pulse restarts the accumulator, takes the verdict or writes nothing more. -/
theorem headerAt_bitPulse (h : IsHeader P a0 a1 a2 ds) (heven : pos % 2 = 0) (hfirst : 4 ≤ pos)
    (hlast : pos ≤ 70) (cfg : ConfigRegs) (acc : BitVec 16) :
    (headerAt pos acc).headerArm P cfg (requiredMode (BitVec.ofNat 8 pos)) (ds pos) =
      if pos = 4 ∨ pos = 26 ∨ pos = 48 then headerAt pos 0
      else if pos = 70 then (headerAt pos acc).conclude cfg else headerAt pos acc := by
  obtain ⟨hwindow, -⟩ := h pos hlast
  rw [headerNominal, if_neg (by omega), if_neg (by omega), if_pos heven] at hwindow
  have hmode : requiredMode (BitVec.ofNat 8 pos) = .pulse := by
    rw [requiredMode_ofNat hlast, if_pos heven]
  have hsync : isSyncPosition (headerAt pos acc).hdrCnt = false :=
    (isSyncPosition_ofNat hlast).trans (decide_eq_false (by omega))
  rw [hmode, headerArm_bitPulse hmode hsync hwindow]
  simp only [headerAt, isResyncPosition_ofNat hlast, ofNat_eq_hdrTotal_iff hlast, decide_eq_true_eq]
  rfl

/-- R136, R137: the SPACE of a bit shifts that bit in. -/
theorem headerAt_bitSpace (hlegal : paramsLegal P = true) (h : IsHeader P a0 a1 a2 ds)
    (hodd : pos % 2 = 1) (hfirst : 4 ≤ pos) (hlast : pos ≤ 70) (cfg : ConfigRegs) (acc : BitVec 16) :
    (headerAt pos acc).headerArm P cfg (requiredMode (BitVec.ofNat 8 pos)) (ds pos) =
      headerAt pos (shiftIn acc (headerBit a0 a1 a2 pos)) := by
  obtain ⟨hwindow, -⟩ := h pos hlast
  rw [headerNominal, if_neg (by omega), if_neg (by omega), if_neg (by omega)] at hwindow
  have hmode : requiredMode (BitVec.ofNat 8 pos) = .space := by
    rw [requiredMode_ofNat hlast, if_neg (by omega)]
  have hsync : isSyncPosition (headerAt pos acc).hdrCnt = false :=
    (isSyncPosition_ofNat hlast).trans (decide_eq_false (by omega))
  rw [hmode, headerArm_bitSpace hlegal hmode hsync _ hwindow]
  rfl

/-- The Intervals at positions 1 to 69 of a header bring the accumulator one Interval further. -/
theorem headerAt_step_headerAcc (hlegal : paramsLegal P = true) (h : IsHeader P a0 a1 a2 ds)
    (hpos : pos + 1 ≤ 69) (cfg : ConfigRegs) :
    (headerAt pos (headerAcc a0 a1 a2 pos)).step P cfg (requiredMode (BitVec.ofNat 8 (pos + 1)))
      (ds (pos + 1)) = headerAt (pos + 1) (headerAcc a0 a1 a2 (pos + 1)) := by
  have hlast : pos + 1 ≤ 70 := by omega
  rw [headerAt_step h hlast]
  by_cases hsecond : pos + 1 ≤ 3
  · rw [headerAt_secondStage h (by omega) hsecond, headerAcc_eq_zero a0 a1 a2 (by omega),
      headerAcc_eq_zero a0 a1 a2 (by omega)]
  by_cases heven : (pos + 1) % 2 = 0
  · rw [headerAt_bitPulse h heven (by omega) hlast]
    by_cases hresync : pos + 1 = 4 ∨ pos + 1 = 26 ∨ pos + 1 = 48
    · rw [if_pos hresync, headerAcc_eq_zero a0 a1 a2 (by omega)]
    · rw [if_neg hresync, if_neg (by omega),
        headerAcc_succ_of_even a0 a1 a2 heven (by omega) hpos (by omega) (by omega)]
  · rw [headerAt_bitSpace hlegal h (by omega) (by omega) hlast,
      headerAcc_succ_of_odd a0 a1 a2 (by omega) (by omega)]

/-- The decoder step at the position `pos` of a header. -/
def headerStep (ds : Nat → Duration) (pos : Nat) : Instr :=
  .decStep (requiredMode (BitVec.ofNat 8 pos)) (ds pos)

theorem headerSteps_eq (ds : Nat → Duration) : headerSteps ds = (List.range 71).map (headerStep ds) :=
  rfl

/-- A header up to and with its Interval at `pos`, at most 69, from IDLE. -/
theorem execAll_headerStep {s : State} (hlegal : paramsLegal s.params = true)
    (hst : s.dec.decState = .idle) (h : IsHeader s.params a0 a1 a2 ds) (hpos : pos ≤ 69) :
    execAll ((List.range (pos + 1)).map (headerStep ds)) s =
      .next (s.withDec (headerAt pos (headerAcc a0 a1 a2 pos))) := by
  induction pos with
  | zero =>
    obtain ⟨hlead, -⟩ := h 0 (Nat.zero_le _)
    have hentered : s.dec.step s.params s.cfg .pulse (ds 0) =
        headerAt 0 (headerAcc a0 a1 a2 0) := by
      rw [step_of_lead hst hlead, headerAcc_eq_zero a0 a1 a2 (by omega)]
      rfl
    rw [← hentered]
    rfl
  | succ pos ih =>
    rw [List.range_succ, List.map_append, execAll_append _ _ _ _ (ih (by omega)),
      ← headerAt_step_headerAcc hlegal h hpos s.cfg]
    rfl

/-- R140: the last pulse of a header takes the verdict on copy 2. -/
theorem headerAt_step_last (h : IsHeader P a0 a1 a2 ds) (cfg : ConfigRegs) :
    (headerAt 69 (headerAcc a0 a1 a2 69)).step P cfg (requiredMode (BitVec.ofNat 8 70)) (ds 70) =
      { decState := resolve cfg.cfgId cfg.cfgMask (a2.setWidth 16), hdrCnt := 70
        addrAcc := a2.setWidth 16 } := by
  rw [headerAt_step h (Nat.le_refl 70), headerAcc_69,
    headerAt_bitPulse h rfl (by decide) (Nat.le_refl 70), if_neg (by decide), if_pos rfl]
  rfl

end Header

/-- Settles O22: the Intervals before the last fill the accumulator with copy 2, and the last takes the
verdict. -/
theorem headerResolvesOnLastCopy : Obligations.HeaderResolvesOnLastCopy := by
  unfold Obligations.HeaderResolvesOnLastCopy
  intro s a0 a1 a2 ds hlegal hst h
  rw [headerSteps_eq, List.range_succ, List.map_append,
    execAll_append _ _ _ _ (execAll_headerStep hlegal hst h (Nat.le_refl 69)),
    ← headerAt_step_last h s.cfg]
  rfl

end Sys2Proof.Proofs

namespace Sys2Proof.Proofs

open Sys2Proof.Machine

/-! ## The Tick (40_clock.md R90 to R95) -/

section Clock

variable {c : ClockRegs}

/-- R90: the tick as the registers it writes, with the wrap read off the old `cnt8` (log 13). -/
theorem clockTick_eq (c : ClockRegs) :
    c.tick = { cnt8 := c.cnt8 + 1, ovfFlag := c.ovfFlag || decide (c.cnt8 = 255)
               ovfCount := c.ovfCount } := by
  simp only [ClockRegs.tick, cnt8_wraps_iff]

/-- R93: a pending overflow is worth one period of `cnt8`. -/
theorem now_withPending (c : ClockRegs) :
    { c with ovfFlag := true }.now = { c with ovfFlag := false }.now + 256 := by
  apply BitVec.eq_of_toNat_eq
  rw [BitVec.toNat_add, ClockRegs.toNat_now, ClockRegs.toNat_now]
  have hcnt := c.cnt8.isLt
  have hovf := c.ovfCount.isLt
  simp only [Bool.toNat_true, Bool.toNat_false, BitVec.reduceToNat]
  omega

/-- R94: with an overflow pending and no wrap, the tick moves the Tick as it would after the handler. -/
theorem now_tick_of_pending (h : c.ovfFlag = true) (hwrap : c.cnt8 ≠ 255) :
    c.tick.now = c.now + 1 := by
  have hpending : c.tick.ovfFlag = true := by simp [clockTick_eq, h]
  have hcomm : c.tick.countOverflow = c.countOverflow.tick := by
    simpa [clockTick_eq, ClockRegs.countOverflow] using hwrap
  calc c.tick.now = c.tick.countOverflow.now := (ClockRegs.now_countOverflow _ hpending).symm
    _ = c.countOverflow.tick.now := by rw [hcomm]
    _ = c.countOverflow.now + 1 := ClockRegs.now_tick _ rfl
    _ = c.now + 1 := by rw [ClockRegs.now_countOverflow c h]

/-- R90 (a): a second wrap finds the flag already set, so the period the handler would have counted
before it is lost. -/
theorem now_tick_of_second_wrap (h : c.ovfFlag = true) (hwrap : c.cnt8 = 255) :
    c.tick.now = c.now + 1 - 256 := by
  have hpending : c.tick.ovfFlag = true := by simp [clockTick_eq, h]
  have hlost : c.countOverflow.tick = { c.tick.countOverflow with ovfFlag := true } := by
    simp [clockTick_eq, ClockRegs.countOverflow, hwrap]
  have hserviced : c.now + 1 = c.tick.now + 256 :=
    calc c.now + 1 = c.countOverflow.now + 1 := by rw [ClockRegs.now_countOverflow c h]
      _ = c.countOverflow.tick.now := (ClockRegs.now_tick _ rfl).symm
      _ = c.tick.countOverflow.now + 256 := by rw [hlost, now_withPending]; rfl
      _ = c.tick.now + 256 := by rw [ClockRegs.now_countOverflow _ hpending]
  rw [hserviced, BitVec.add_sub_cancel]

/-- R94, R90 (a): what the tick does to the Tick, in every state of the clock. -/
theorem now_tick_eq (c : ClockRegs) :
    c.tick.now = if c.ovfFlag = true ∧ c.cnt8 = 255 then c.now + 1 - 256 else c.now + 1 := by
  split
  next hlost => exact now_tick_of_second_wrap hlost.1 hlost.2
  next hkept =>
    cases hflag : c.ovfFlag with
    | false => exact c.now_tick hflag
    | true => exact now_tick_of_pending hflag fun hwrap => hkept ⟨hflag, hwrap⟩

end Clock

/-- R94: no handler of a cycle moves the Tick, masked or not. -/
@[simp] theorem serviceInterrupts_now (lvl : Level) (s : State) :
    (serviceInterrupts lvl s).now = s.now := by
  cases hie : s.ie with
  | false => rw [serviceInterrupts_masked lvl s hie]
  | true =>
    rw [serviceInterrupts_enabled lvl hie]
    exact overflowTurn_now s.clk

/-- R94: with no overflow pending at its start, a cycle moves the Tick by exactly 1. -/
theorem cycle_now (lvl : Level) {s : State} (h : s.clk.ovfFlag = false) :
    (cycle lvl s).now = s.now + 1 := by
  rw [cycle, poll_now, serviceInterrupts_now]
  exact s.clk.now_tick h

/-- Settles O5, by induction over the cycles: each completes, finds no overflow pending (R38 (e)), and
keeps the invariants. -/
theorem tickCountsCyclesExactly : Obligations.TickCountsCyclesExactly := by
  unfold Obligations.TickCountsCyclesExactly
  intro lvls
  induction lvls with
  | nil => exact fun s hinv => ⟨s, rfl, by simp, hinv⟩
  | cons lvl lvls ih =>
    intro s hinv
    have hports : CycleInv (s.withPorts { s.ports with rfIn := lvl }) := cycleInv_withPorts hinv _
    obtain ⟨t, hrun, hcount, ht⟩ := ih _ (cycleInv_cycle lvl hports)
    refine ⟨t, hrun, ?_, ht⟩
    calc t.now = s.now + 1 + BitVec.ofNat 32 lvls.length := by
          rw [hcount, cycle_now lvl hports.noOverflow]; rfl
      _ = s.now + BitVec.ofNat 32 (lvl :: lvls).length := by
          rw [List.length_cons, BitVec.ofNat_add, BitVec.add_assoc, BitVec.add_comm 1]; rfl

/-- Settles O4: `CLK.TICK` by the cases of `now_tick_eq`; `CLK.OVF` counts a pending overflow or is not
applied. -/
theorem tickMovesByOneOrLosesPeriod : Obligations.TickMovesByOneOrLosesPeriod := by
  unfold Obligations.TickMovesByOneOrLosesPeriod
  intro s t
  refine ⟨fun htick => ?_, fun hovf => ?_⟩
  · obtain rfl := Host.Outcome.next.inj htick
    exact now_tick_eq s.clk
  · obtain rfl := Host.Outcome.next.inj hovf
    split
    next happlied =>
      obtain ⟨-, hflag⟩ := Bool.and_eq_true_iff.1 happlied
      exact s.clk.now_countOverflow hflag
    next => rfl

/-- Settles O1, by the equation of the tick. -/
theorem clkTickAdvancesCounter : Obligations.ClkTickAdvancesCounter := by
  unfold Obligations.ClkTickAdvancesCounter
  intro s
  rw [exec_clkTick, clockTick_eq]
  rfl

/-- Settles O2: the handler's body where it is applied, and the guard where it is not. -/
theorem clkOvfCountsPendingPeriod : Obligations.ClkOvfCountsPendingPeriod := by
  unfold Obligations.ClkOvfCountsPendingPeriod
  intro s
  refine ⟨fun hie hflag => ⟨s.clk.ovfCount + 1, BitVec.toNat_add _ _, ?_⟩, fun hflag => ?_⟩
  · rw [exec_clkOvf, if_pos (by rw [hie, hflag]; rfl)]
    rfl
  · simp [hflag]

/-- Settles O3: the value is the Tick as a number. -/
theorem clkNowReturnsTick : Obligations.ClkNowReturnsTick := by
  unfold Obligations.ClkNowReturnsTick
  exact fun s => ⟨s.now, s.clk.toNat_now, rfl⟩

end Sys2Proof.Proofs

namespace Sys2Proof.Proofs

open Sys2Proof.Machine

/-! ## The debouncer's handlers applied directly (41_debouncer.md R103 to R105) -/

/-- The precondition `ie = 1` met: the handler's body is applied to the debouncer's registers. -/
theorem applyHandler_enabled (body : DebouncerRegs → DebouncerRegs) {s : State} (hie : s.ie = true) :
    applyHandler body s = s.withDeb (body s.deb) := by
  simp [applyHandler, hie]

/-- R103: the edge handler as the registers it writes. -/
theorem onEdge_eq (P : Params) (now : Tick) (lvl : Level) (r : DebouncerRegs) :
    r.onEdge P now lvl =
      { act := if r.act = .inactive then .waiting else r.act
        settle := if r.act = .inactive then { armed := true, due := deadlineFrom P now } else r.settle
        confirm := { armed := true, due := deadlineFrom P now }
        lastLevel := lvl
        pinPrev := r.pinPrev } := by
  by_cases h : r.act = .inactive <;> simp [DebouncerRegs.onEdge, Deadline.arm, h]

/-- R105, the branch of a changed level. -/
theorem onConfirm_changed (P : Params) (now : Tick) {lvl : Level} {r : DebouncerRegs}
    (h : lvl ≠ r.lastLevel) :
    r.onConfirm P now lvl =
      { r with lastLevel := lvl, confirm := { armed := true, due := deadlineFrom P now } } := by
  simp [DebouncerRegs.onConfirm, Deadline.arm, h]

/-- Settles O6, by the equation of the edge handler. -/
theorem debEdgeArmsDeadlines : Obligations.DebEdgeArmsDeadlines := by
  unfold Obligations.DebEdgeArmsDeadlines
  intro s lvl hie
  rw [exec_debEdge, applyHandler_enabled _ hie, onEdge_eq]
  rfl

/-- Settles O7: the handler's body is what the statement writes out. -/
theorem debSettleConfirmsActivity : Obligations.DebSettleConfirmsActivity := by
  unfold Obligations.DebSettleConfirmsActivity
  intro s hie
  rw [exec_debSettle, applyHandler_enabled _ hie]
  rfl

/-- Settles O8, by the two branches of the confirm handler. -/
theorem debConfirmExtendsOrEnds : Obligations.DebConfirmExtendsOrEnds := by
  unfold Obligations.DebConfirmExtendsOrEnds
  intro s lvl hie
  rw [exec_debConfirm, applyHandler_enabled _ hie]
  constructor
  · intro hchanged
    rw [onConfirm_changed _ _ hchanged]
    rfl
  · rintro rfl
    rw [DebouncerRegs.onConfirm_stable]
    rfl

/-! ## Polarity independence (41_debouncer.md R108)

Complementing the line commutes with each part of a cycle: levels are only ever compared with levels. -/

/-- The debouncer's part of `flipLine`. -/
def flipRegs (r : DebouncerRegs) : DebouncerRegs :=
  { r with lastLevel := !r.lastLevel, pinPrev := !r.pinPrev }

theorem flipRegs_onEdge (P : Params) (now : Tick) (lvl : Level) (r : DebouncerRegs) :
    (flipRegs r).onEdge P now (!lvl) = flipRegs (r.onEdge P now lvl) := by
  simp only [onEdge_eq, flipRegs]

theorem flipRegs_onConfirm (P : Params) (now : Tick) (lvl : Level) (r : DebouncerRegs) :
    (flipRegs r).onConfirm P now (!lvl) = flipRegs (r.onConfirm P now lvl) := by
  by_cases h : lvl = r.lastLevel
  · subst h
    rw [DebouncerRegs.onConfirm_stable, show (!r.lastLevel) = (flipRegs r).lastLevel from rfl,
      DebouncerRegs.onConfirm_stable]
    rfl
  · have hflip : (!lvl) ≠ (flipRegs r).lastLevel := by simpa [flipRegs] using h
    rw [onConfirm_changed _ _ h, onConfirm_changed _ _ hflip]
    rfl

/-- R183: no source is raised by the level itself. -/
theorem raised_flipLine (src : IrqSource) (lvl : Level) (s : State) :
    raised src (!lvl) (flipLine s) = raised src lvl s := by
  cases src with
  | pinChange => simp [raised, flipLine]
  | settleCompare => rfl
  | confirmCompare => rfl
  | overflow => rfl

theorem takeInterrupt_flipLine (src : IrqSource) (lvl : Level) (s : State) :
    takeInterrupt src (!lvl) (flipLine s) = flipLine (takeInterrupt src lvl s) := by
  cases src with
  | pinChange =>
    exact congrArg (flipLine s).withDeb
      (flipRegs_onEdge s.params s.now lvl { s.deb with pinPrev := lvl })
  | settleCompare => rfl
  | confirmCompare =>
    exact congrArg (flipLine s).withDeb (flipRegs_onConfirm s.params s.now lvl s.deb)
  | overflow => rfl

/-- A source's turn, masked or not. -/
theorem serviceSource_flipLine (src : IrqSource) (lvl : Level) (s : State) :
    serviceSource (!lvl) (flipLine s) src = flipLine (serviceSource lvl s src) := by
  have hie : (flipLine s).ie = s.ie := rfl
  unfold serviceSource
  rw [hie, raised_flipLine, takeInterrupt_flipLine]
  split <;> rfl

theorem serviceInterrupts_flipLine (lvl : Level) (s : State) :
    serviceInterrupts (!lvl) (flipLine s) = flipLine (serviceInterrupts lvl s) := by
  simp only [serviceInterrupts_eq, serviceSource_flipLine]

/-- R116, R117: a poll reads no level of the line. -/
theorem poll_flipLine (s : State) : poll (flipLine s) = flipLine (poll s) := by
  rcases poll_cases s with ⟨hmode, h⟩ | ⟨hmode, h⟩ <;>
    rcases poll_cases (flipLine s) with ⟨hmode', h'⟩ | ⟨hmode', h'⟩
  · rw [h, h']
  · exact absurd hmode hmode'
  · exact absurd hmode' hmode
  · rw [h, h']
    rfl

/-- Settles O13: the tick, the four sources and the poll each commute with `flipLine`. -/
theorem cycleIgnoresPolarity : Obligations.CycleIgnoresPolarity := by
  unfold Obligations.CycleIgnoresPolarity
  intro s t lvl h
  obtain rfl := Host.Outcome.next.inj h
  have hcycle : cycle (!lvl) (flipLine s) = flipLine (cycle lvl s) :=
    calc cycle (!lvl) (flipLine s)
        = poll (serviceInterrupts (!lvl) (flipLine (s.withClk s.clk.tick))) := rfl
      _ = flipLine (cycle lvl s) := by rw [serviceInterrupts_flipLine, poll_flipLine, cycle]
  rw [exec_topCycle, hcycle]

/-! ## The debouncer as two down-counters (41_debouncer.md R100, R107)

At a cycle boundary the activity is read off what the two deadlines have still to wait: a quiet cycle
counts both down by one, and an edge reloads them as R103 arms them. A deadline that fires has nothing
left to wait, so its handler moves neither count. -/

/-- What a deadline has still to wait at the Tick `now`; nothing if it is not armed. -/
def ticksLeft (now : Tick) (x : Deadline) : Nat := if x.armed then ticksUntil now x else 0

section TicksLeft

variable {P : Params} {now : Tick} {x : Deadline}

theorem ticksLeft_of_armed (h : x.armed = true) : ticksLeft now x = ticksUntil now x := by
  simp [ticksLeft, h]

theorem ticksLeft_of_fires (h : x.firesAt now = true) : ticksLeft now x = 0 := by
  obtain ⟨harmed, hdue⟩ := (firesAt_iff x now).1 h
  rw [ticksLeft_of_armed harmed, hdue]

/-- R103, R105. -/
theorem ticksLeft_deadlineFrom (h : P.outDelay ≤ 255) (now : Tick) :
    ticksLeft now { armed := true, due := deadlineFrom P now } = P.outDelay :=
  ticksUntil_deadlineFrom h now

/-- R90: the clock's tick counts a deadline that lies ahead down. -/
theorem ticksLeft_succ (h : x.armed = true → 1 ≤ ticksUntil now x) :
    ticksLeft (now + 1) x = ticksLeft now x - 1 := by
  cases harmed : x.armed with
  | false => simp [ticksLeft, harmed]
  | true =>
    have := ticksUntil_succ (h harmed)
    rw [ticksLeft_of_armed harmed, ticksLeft_of_armed harmed]
    omega

/-- A deadline that lies ahead when armed has ticks left just if it is armed. -/
theorem ticksLeft_pos_iff (h : x.armed = true → 1 ≤ ticksUntil now x) :
    0 < ticksLeft now x ↔ x.armed = true := by
  cases harmed : x.armed with
  | false => simp [ticksLeft, harmed]
  | true =>
    have hahead : 0 < ticksUntil now x := h harmed
    simpa [ticksLeft, harmed] using hahead

end TicksLeft

section Turns

variable {P : Params} {now : Tick} {lvl : Level} {r : DebouncerRegs}

@[simp] theorem edgeTurn_pinPrev (P : Params) (now : Tick) (lvl : Level) (r : DebouncerRegs) :
    (edgeTurn P now lvl r).pinPrev = lvl := by
  unfold edgeTurn
  split
  · rw [DebouncerRegs.onEdge_pinPrev]
  next hquiet => exact (not_not.1 hquiet).symm

/-- R103: an edge always reloads the confirm count. -/
theorem edgeTurn_confirm (hdelay : P.outDelay ≤ 255) :
    ticksLeft now (edgeTurn P now lvl r).confirm =
      if lvl = r.pinPrev then ticksLeft now r.confirm else P.outDelay := by
  by_cases hquiet : lvl = r.pinPrev
  · simp [edgeTurn, hquiet]
  · simp [edgeTurn, hquiet, ticksLeft_deadlineFrom hdelay]

/-- R103: an edge reloads the settle count from INACTIVE only. -/
theorem edgeTurn_settle (hdelay : P.outDelay ≤ 255) :
    ticksLeft now (edgeTurn P now lvl r).settle =
      if lvl = r.pinPrev ∨ r.act ≠ .inactive then ticksLeft now r.settle else P.outDelay := by
  by_cases hquiet : lvl = r.pinPrev
  · simp [edgeTurn, hquiet]
  · by_cases hact : r.act = .inactive
    · simp [edgeTurn, hquiet, onEdge_eq, hact, ticksLeft_deadlineFrom hdelay]
    · simp [edgeTurn, hquiet, onEdge_eq, hact]

@[simp] theorem settleTurn_pinPrev (now : Tick) (r : DebouncerRegs) :
    (settleTurn now r).pinPrev = r.pinPrev := by
  unfold settleTurn
  split <;> rfl

@[simp] theorem settleTurn_confirm (now : Tick) (r : DebouncerRegs) :
    (settleTurn now r).confirm = r.confirm := by
  unfold settleTurn
  split <;> rfl

@[simp] theorem settleTurn_settle (now : Tick) (r : DebouncerRegs) :
    ticksLeft now (settleTurn now r).settle = ticksLeft now r.settle := by
  unfold settleTurn
  split
  next hfires => rw [ticksLeft_of_fires hfires]; rfl
  next => rfl

@[simp] theorem confirmTurn_pinPrev (P : Params) (now : Tick) (lvl : Level) (r : DebouncerRegs) :
    (confirmTurn P now lvl r).pinPrev = r.pinPrev := by
  unfold confirmTurn DebouncerRegs.onConfirm
  split
  · split <;> rfl
  · rfl

/-- R105, with the level recorded by the pin's turn: the stable branch is the only one. -/
theorem confirmTurn_confirm (hlvl : r.lastLevel = lvl) :
    ticksLeft now (confirmTurn P now lvl r).confirm = ticksLeft now r.confirm := by
  subst hlvl
  unfold confirmTurn
  split
  next hfires => rw [DebouncerRegs.onConfirm_stable, ticksLeft_of_fires hfires]; rfl
  next => rfl

/-- R38 (c): where the confirm deadline fires, the settle deadline has nothing left either. -/
theorem confirmTurn_settle (hlvl : r.lastLevel = lvl) {settleMin : Nat}
    (h : DebounceTimed P now settleMin 0 r) :
    ticksLeft now (confirmTurn P now lvl r).settle = ticksLeft now r.settle := by
  subst hlvl
  unfold confirmTurn
  split
  next hfires =>
    obtain ⟨-, hdue⟩ := (firesAt_iff _ _).1 hfires
    have hsettle : ticksLeft now r.settle = 0 := by
      cases hs : r.settle.armed with
      | false => simp [ticksLeft, hs]
      | true =>
        have horder := h.order hs
        rw [ticksLeft_of_armed hs]
        omega
    rw [DebouncerRegs.onConfirm_stable, hsettle]
    rfl
  next => rfl

end Turns

/-- What the settle deadline has still to wait: positive just while WAITING. -/
def settleLeft (s : State) : Nat := ticksLeft s.now s.deb.settle

/-- What the confirm deadline has still to wait: positive just until activity is over. -/
def confirmLeft (s : State) : Nat := ticksLeft s.now s.deb.confirm

section Boundary

variable {s : State}

theorem act_eq_waiting_iff (h : CycleInv s) : s.deb.act = .waiting ↔ 0 < settleLeft s := by
  rw [settleLeft, ticksLeft_pos_iff fun hs => (h.settleAhead hs).1, h.settleArmed]

theorem act_eq_inactive_iff (h : CycleInv s) : s.deb.act = .inactive ↔ confirmLeft s = 0 := by
  have hpos : 0 < confirmLeft s ↔ s.deb.act ≠ .inactive := by
    rw [confirmLeft, ticksLeft_pos_iff fun hc => (h.confirmAhead hc).1, h.confirmArmed]
  rw [← not_iff_not, ← ne_eq, ← hpos, Nat.pos_iff_ne_zero]

theorem act_eq_active_iff (h : CycleInv s) :
    s.deb.act = .active ↔ settleLeft s = 0 ∧ confirmLeft s ≠ 0 := by
  have hsettle : settleLeft s = 0 ↔ s.deb.act ≠ .waiting := by
    rw [ne_eq, act_eq_waiting_iff h, Nat.pos_iff_ne_zero, not_not]
  rw [hsettle, ne_eq (confirmLeft s), ← act_eq_inactive_iff h]
  cases s.deb.act <;> decide

/-- R38 (c), (d): the settle count is never the later one, and the confirm count is at most
`OUTDELAY`. -/
theorem settleLeft_le_confirmLeft (h : CycleInv s) :
    settleLeft s ≤ confirmLeft s ∧ confirmLeft s ≤ s.params.outDelay := by
  have htimed := debounceTimed_of_cycleInv h
  unfold settleLeft confirmLeft
  constructor
  · cases hs : s.deb.settle.armed with
    | false => simp [ticksLeft, hs]
    | true =>
      rw [ticksLeft_of_armed hs, ticksLeft_of_armed (htimed.confirm_of_settle hs)]
      exact htimed.order hs
  · cases hc : s.deb.confirm.armed with
    | false => simp [ticksLeft, hc]
    | true =>
      rw [ticksLeft_of_armed hc]
      exact (htimed.confirmAhead hc).2

/-- R116: the line reads SPACE unless activity is ACTIVE. -/
theorem modeOf_eq_space {a : Activity} (h : a ≠ .active) : modeOf a = .space := by
  cases a with
  | inactive => rfl
  | waiting => rfl
  | active => exact absurd rfl h

/-- R107: while the two counts run together, activity is not ACTIVE at any boundary. -/
theorem modeOf_of_together (h : CycleInv s) (htogether : settleLeft s = confirmLeft s) :
    modeOf s.deb.act = .space := by
  refine modeOf_eq_space fun hactive => ?_
  obtain ⟨hsettle, hconfirm⟩ := (act_eq_active_iff h).1 hactive
  exact hconfirm (htogether ▸ hsettle)

/-- R170, R188: the debouncer after a cycle is the three turns at the next Tick. -/
theorem cycle_deb (lvl : Level) (h : CycleInv s) :
    (cycle lvl s).deb = confirmTurn s.params (s.now + 1) lvl (settleTurn (s.now + 1)
      (edgeTurn s.params (s.now + 1) lvl s.deb)) := by
  have hnow : (s.withClk s.clk.tick).now = s.now + 1 := s.clk.now_tick h.noOverflow
  rw [cycle, poll_deb, serviceInterrupts_enabled lvl (by simpa using h.enabled), hnow]
  rfl

/-- What one cycle at the level `lvl` leads to from a cycle boundary: the invariants, the two counts,
and what the sampler, the decoder and the output make of it. -/
structure AfterCycle (lvl : Level) (s t : State) : Prop where
  inv : CycleInv t
  params : t.params = s.params
  pinPrev : t.deb.pinPrev = lvl
  settle : settleLeft t =
    if lvl = s.deb.pinPrev ∨ s.deb.act ≠ .inactive then settleLeft s - 1 else s.params.outDelay
  confirm : confirmLeft t = if lvl = s.deb.pinPrev then confirmLeft s - 1 else s.params.outDelay
  unseen : modeOf t.deb.act = modeOf s.deb.act → t.smp = s.smp ∧ t.dec = s.dec ∧ t.outN = s.outN

/-- R107, one cycle: the tick counts down, the pin's turn reloads, and the deadlines' turns, whether they
fire or not, leave the counts. -/
theorem afterCycle_cycle (lvl : Level) (h : CycleInv s) : AfterCycle lvl s (cycle lvl s) := by
  obtain ⟨-, hdelay⟩ := outDelay_bounds h.legal
  have htimed := debounceTimed_of_cycleInv h
  have hnow := cycle_now lvl h.noOverflow
  have hdeb := cycle_deb lvl h
  have hlevel : (settleTurn (s.now + 1) (edgeTurn s.params (s.now + 1) lvl s.deb)).lastLevel = lvl :=
    (settleTurn_lastLevel _ _).trans (edgeTurn_lastLevel _ _ _ h.levels)
  constructor
  case inv => exact cycleInv_cycle lvl h
  case params => rw [cycle_frame]
  case pinPrev => simp [hdeb]
  case settle =>
    rw [settleLeft, hnow, hdeb,
      confirmTurn_settle hlevel (htimed.tick.edgeTurn hdelay lvl).settleTurn, settleTurn_settle,
      edgeTurn_settle hdelay, ticksLeft_succ htimed.settleAhead, settleLeft]
  case confirm =>
    rw [confirmLeft, hnow, hdeb, confirmTurn_confirm hlevel, settleTurn_confirm,
      edgeTurn_confirm hdelay, ticksLeft_succ fun hc => (htimed.confirmAhead hc).1, confirmLeft]
  case unseen =>
    intro hmode
    have hsame : modeOf (serviceInterrupts lvl (s.withClk s.clk.tick)).deb.act =
        (serviceInterrupts lvl (s.withClk s.clk.tick)).smp.curMode := by
      rw [cycle, poll_deb] at hmode
      rw [hmode, serviceInterrupts_smp, State.withClk_smp, h.modes]
    rw [cycle]
    rcases poll_cases (serviceInterrupts lvl (s.withClk s.clk.tick)) with ⟨-, hpoll⟩ | ⟨hne, -⟩
    · simp [hpoll]
    · exact absurd hsame hne

/-- One cycle at the head of a run; the level its word drives on the port is no matter. -/
theorem execAll_topCycle_cons (lvl : Level) (h : CycleInv s) :
    ∃ t, (∀ rest, execAll (.topCycle lvl :: rest) s = execAll rest t) ∧ AfterCycle lvl s t := by
  have hcycle := afterCycle_cycle lvl (cycleInv_withPorts h { s.ports with rfIn := lvl })
  exact ⟨_, fun _ => rfl, { hcycle with }⟩

end Boundary

/-! ## Activity over a run of cycles (41_debouncer.md R107, R110) -/

section Runs

variable {s : State} {lvl : Level}

/-- R107: over a run no longer than the settle deadline has to wait, the settle count falls by one in
each cycle, and the confirm count stays with it just if no edge comes. -/
theorem execAll_while_waiting (lvls : List Level) (h : CycleInv s)
    (hlen : lvls.length ≤ settleLeft s) :
    ∃ t, execAll (lvls.map fun l => .topCycle l) s = .next t ∧ CycleInv t ∧
      settleLeft t = settleLeft s - lvls.length ∧
      (settleLeft t = confirmLeft t ↔
        settleLeft s = confirmLeft s ∧ ∀ l ∈ lvls, l = s.deb.pinPrev) := by
  induction lvls generalizing s with
  | nil => exact ⟨s, rfl, h, rfl, by simp⟩
  | cons l lvls ih =>
    rw [List.length_cons] at hlen
    obtain ⟨u, hrun, hu⟩ := execAll_topCycle_cons l h
    obtain ⟨horder, hbound⟩ := settleLeft_le_confirmLeft h
    have hwaiting : s.deb.act = .waiting := (act_eq_waiting_iff h).2 (by omega)
    have hsettle : settleLeft u = settleLeft s - 1 := by simpa [hwaiting] using hu.settle
    obtain ⟨t, hrest, ht, hleft, htogether⟩ := ih hu.inv (by omega)
    refine ⟨t, (hrun _).trans hrest, ht, by rw [hleft, hsettle, List.length_cons]; omega, ?_⟩
    rw [htogether, hu.pinPrev, List.forall_mem_cons]
    have hconfirm := hu.confirm
    by_cases hquiet : l = s.deb.pinPrev
    · rw [if_pos hquiet] at hconfirm
      have hiff : settleLeft u = confirmLeft u ↔ settleLeft s = confirmLeft s := by omega
      simp [hiff, hquiet]
    · rw [if_neg hquiet] at hconfirm
      have hapart : settleLeft u ≠ confirmLeft u := by omega
      simp [hapart, hquiet]

/-- R107: `k` quiet cycles count the confirm deadline down by `k`. While it runs together with the
settle deadline no Interval comes of them (R110). -/
theorem execAll_quiet (k : Nat) (h : CycleInv s) (hlvl : s.deb.pinPrev = lvl) :
    ∃ t, execAll (List.replicate k (.topCycle lvl)) s = .next t ∧ CycleInv t ∧
      confirmLeft t = confirmLeft s - k ∧
      (settleLeft s = confirmLeft s → t.smp = s.smp ∧ t.dec = s.dec ∧ t.outN = s.outN) := by
  induction k generalizing s with
  | zero => exact ⟨s, rfl, h, rfl, fun _ => ⟨rfl, rfl, rfl⟩⟩
  | succ k ih =>
    obtain ⟨u, hrun, hu⟩ := execAll_topCycle_cons lvl h
    have hsettle : settleLeft u = settleLeft s - 1 := by simpa [hlvl] using hu.settle
    have hconfirm : confirmLeft u = confirmLeft s - 1 := by simpa [hlvl] using hu.confirm
    obtain ⟨t, hrest, ht, hleft, hframe⟩ := ih hu.inv hu.pinPrev
    refine ⟨t, (hrun _).trans hrest, ht, by omega, fun htogether => ?_⟩
    have hstill : settleLeft u = confirmLeft u := by omega
    obtain ⟨hsmp, hdec, hout⟩ := hu.unseen
      ((modeOf_of_together hu.inv hstill).trans (modeOf_of_together h htogether).symm)
    rw [← hsmp, ← hdec, ← hout]
    exact hframe hstill

/-- R103: the cycle of a first edge loads both counts with `OUTDELAY`. -/
theorem AfterCycle.firstEdge {t : State} (hcycle : AfterCycle lvl s t) (hact : s.deb.act = .inactive)
    (hedge : lvl ≠ s.deb.pinPrev) :
    settleLeft t = s.params.outDelay ∧ confirmLeft t = s.params.outDelay :=
  ⟨by simpa [hact, hedge] using hcycle.settle, by simpa [hedge] using hcycle.confirm⟩

end Runs

/-- Settles O10: the first edge loads both counts, and the settle count says how far the run has got. -/
theorem activityAssertedAfterOutdelay : Obligations.ActivityAssertedAfterOutdelay := by
  unfold Obligations.ActivityAssertedAfterOutdelay
  intro s lvl lvls hinv hact hedge hlen
  obtain ⟨u, hrun, hu⟩ := execAll_topCycle_cons lvl hinv
  obtain ⟨hsettle, hconfirm⟩ := hu.firstEdge hact hedge
  obtain ⟨t, hrest, ht, hleft, htogether⟩ :=
    execAll_while_waiting lvls hu.inv (hsettle.symm ▸ hlen)
  rw [hsettle, hconfirm, hu.pinPrev, eq_self, true_and] at htogether
  refine ⟨t, (hrun _).trans hrest, fun hbefore => (act_eq_waiting_iff ht).2 (by omega),
    fun hat => ?_⟩
  have hfired : settleLeft t = 0 := by omega
  rw [hfired] at htogether
  by_cases hlone : ∀ l ∈ lvls, l = lvl
  · rw [if_pos hlone]
    exact (act_eq_inactive_iff ht).2 (htogether.2 hlone).symm
  · rw [if_neg hlone]
    exact (act_eq_active_iff ht).2 ⟨hfired, fun hover => hlone (htogether.1 hover.symm)⟩

/-- Settles O11: the edge loads the confirm count and the quiet cycles count it down. -/
theorem activityEndsOutdelayAfterLastEdge : Obligations.ActivityEndsOutdelayAfterLastEdge := by
  unfold Obligations.ActivityEndsOutdelayAfterLastEdge
  intro s lvl k hinv hedge
  obtain ⟨u, hrun, hu⟩ := execAll_topCycle_cons lvl hinv
  have hconfirm : confirmLeft u = s.params.outDelay := by simpa [hedge] using hu.confirm
  obtain ⟨t, hrest, ht, hleft, -⟩ := execAll_quiet k hu.inv hu.pinPrev
  refine ⟨t, (hrun _).trans hrest, ?_⟩
  rw [act_eq_inactive_iff ht, hleft, hconfirm, Nat.sub_eq_zero_iff_le]

/-- Settles O12: a lone edge loads both counts, and they run out together. -/
theorem loneEdgeProducesNoInterval : Obligations.LoneEdgeProducesNoInterval := by
  unfold Obligations.LoneEdgeProducesNoInterval
  intro s lvl hinv hact hedge
  obtain ⟨u, hrun, hu⟩ := execAll_topCycle_cons lvl hinv
  obtain ⟨hsettle, hconfirm⟩ := hu.firstEdge hact hedge
  have htogether : settleLeft u = confirmLeft u := hsettle.trans hconfirm.symm
  obtain ⟨hsmp, hdec, hout⟩ := hu.unseen (by rw [modeOf_of_together hu.inv htogether, hact]; rfl)
  obtain ⟨t, hrest, ht, hleft, hframe⟩ := execAll_quiet s.params.outDelay hu.inv hu.pinPrev
  have hover : t.deb.act = .inactive := (act_eq_inactive_iff ht).2 (by omega)
  rw [← hsmp, ← hdec, ← hout]
  exact ⟨t, (hrun _).trans hrest, hover, hframe htogether⟩

end Sys2Proof.Proofs

namespace Sys2Proof.Proofs

open Sys2Proof.Machine

/-! ## The poll and the operations it is made of (42_sampler.md R116, R117) -/

/-- R116: the mode read from `act`, by its one asserted value. -/
theorem modeOf_eq_ite (a : Activity) : modeOf a = if a = .active then .pulse else .space := by
  cases a <;> rfl

/-- R116: the activity shows the mode `m` when both or neither are asserted. -/
theorem modeOf_eq_iff (a : Activity) (m : Mode) : modeOf a = m ↔ (a = .active ↔ m = .pulse) := by
  cases m <;> simp [modeOf_eq_ite]

/-- Settles O14, by the two cases of a poll. -/
theorem pollEmitsOnModeChange : Obligations.PollEmitsOnModeChange := by
  unfold Obligations.PollEmitsOnModeChange
  intro s
  simp only [← modeOf_eq_iff, ← modeOf_eq_ite, exec_smpPoll, exec_decStep, exec_outDrive]
  rcases poll_cases s with ⟨hsame, hpoll⟩ | ⟨hchange, hpoll⟩
  · exact ⟨fun _ => congrArg _ hpoll, fun hchange => absurd hsame hchange⟩
  · exact ⟨fun hsame => absurd hsame hchange, fun _ => ⟨_, _, rfl, rfl, congrArg _ hpoll⟩⟩

end Sys2Proof.Proofs

namespace Sys2Proof.Proofs

open Sys2Proof.Machine

/-! ## The decoder's tests as numbers (43_decoder.md R126, R130, R131, R133, R135) -/

section Tests

variable {P : Params} {m : Mode} {d : Duration} {pos : BitVec 8}

theorem inRange_iff {N : Nat} :
    inRange d N = true ↔ 4 * N ≤ 5 * d.toNat ∧ 5 * d.toNat ≤ 6 * N := by
  simp [inRange]

theorem isGapInterval_eq_false_iff :
    isGapInterval P m d = false ↔ ¬(m = .space ∧ P.tGap < d.toNat) := by
  simp [isGapInterval, isGap]

theorem eq_requiredMode_iff : m = requiredMode pos ↔ (m = .pulse ↔ pos.toNat % 2 = 0) := by
  rcases Nat.mod_two_eq_zero_or_one pos.toNat with hpar | hpar <;> cases m <;>
    simp [requiredMode, hpar]

theorem ne_requiredMode_iff : m ≠ requiredMode pos ↔ (m = .pulse ↔ pos.toNat % 2 = 1) := by
  rcases Nat.mod_two_eq_zero_or_one pos.toNat with hpar | hpar <;> cases m <;>
    simp [requiredMode, hpar]

theorem isSyncPosition_iff : isSyncPosition pos = true ↔ 1 ≤ pos.toNat ∧ pos.toNat ≤ 3 := by
  simp [isSyncPosition]

theorem isResyncPosition_iff : isResyncPosition pos = true ↔ pos.toNat ∈ [4, 26, 48] := by
  simp [isResyncPosition, resyncPositions, ← BitVec.toNat_inj]

theorem eq_hdrTotal_iff : pos = hdrTotal ↔ pos.toNat = 70 := by
  rw [← BitVec.toNat_inj]
  rfl

end Tests

/-- Settles O34: the second window is the first divided by 5. -/
theorem classifierAcceptsExactWindow : Obligations.ClassifierAcceptsExactWindow := by
  unfold Obligations.ClassifierAcceptsExactWindow
  intro d N
  exact ⟨inRange_iff, inRange_iff.trans (by omega)⟩

/-! ## The verdict (43_decoder.md R141) -/

section Verdict

variable {id : BitVec 8} {mask : BitVec 7} {a : BitVec 16}

/-- R66: the id field of the address, compared with an id that has 4 bits. -/
theorem addressId_eq_iff (hid : id.toNat ≤ 15) :
    addressId a = id.extractLsb' 0 4 ↔ a.toNat % 16 = id.toNat := by
  rw [← BitVec.toNat_inj, addressId, BitVec.extractLsb'_toNat, BitVec.extractLsb'_toNat]
  simp only [Nat.shiftRight_zero]
  omega

/-- R66: some channel bit of the address is enabled in the mask. -/
theorem addressChannels_and_ne_zero_iff :
    addressChannels a &&& mask ≠ 0 ↔
      ∃ k < 7, a.getLsbD (4 + k) = true ∧ mask.getLsbD k = true := by
  have hbit : ∀ k < 7, (addressChannels a &&& mask).getLsbD k =
      (a.getLsbD (4 + k) && mask.getLsbD k) := by
    intro k hk
    simp [addressChannels, hk]
  constructor
  · intro hne
    by_contra hnone
    push Not at hnone
    refine hne (BitVec.eq_of_getLsbD_eq fun k hk => ?_)
    simpa [hbit k hk] using hnone k hk
  · rintro ⟨k, hk, ha, hmask⟩ hzero
    simpa [hzero, ha, hmask] using hbit k hk

theorem resolve_eq_passthrough_iff :
    resolve id mask a = .passthrough ↔
      id = 0 ∨ (1 ≤ id.toNat ∧ id.toNat ≤ 15 ∧ addressId a = id.extractLsb' 0 4 ∧
        addressChannels a &&& mask ≠ 0) := by
  unfold resolve
  split_ifs <;> simp_all

theorem resolve_eq_bypass (h : resolve id mask a ≠ .passthrough) : resolve id mask a = .bypass := by
  unfold resolve at *
  split_ifs at * <;> simp_all

end Verdict

/-- Settles O35: the two tests on the accumulator, as a number and as bits. -/
theorem verdictNeedsIdAndChannel : Obligations.VerdictNeedsIdAndChannel := by
  unfold Obligations.VerdictNeedsIdAndChannel
  intro id mask a
  refine ⟨?_, resolve_eq_bypass⟩
  rw [resolve_eq_passthrough_iff, addressChannels_and_ne_zero_iff]
  refine or_congr_right (and_congr_right fun _ => and_congr_right fun hid => ?_)
  rw [addressId_eq_iff hid]

/-! ## The decoder step by the state it starts in (43_decoder.md R125, R126, R129, R130) -/

section Step

variable {P : Params} {cfg : ConfigRegs} {m : Mode} {d : Duration} {r : DecoderRegs}

/-- R126. -/
theorem step_of_gap (hgap : isGapInterval P m d = true) : r.step P cfg m d = r.forceIdle := by
  rcases r.step_cases P cfg m d with ⟨-, h⟩ | h
  · exact h
  · simp [hgap] at h

/-- R142, R143. -/
theorem step_of_terminal (hst : r.decState = .bypass ∨ r.decState = .passthrough)
    (hgap : isGapInterval P m d = false) : r.step P cfg m d = r := by
  rcases hst with hst | hst <;> simp [DecoderRegs.step, hgap, hst]

/-- R126 (d). -/
theorem step_decState_of_terminal (P : Params) (cfg : ConfigRegs) (m : Mode) (d : Duration)
    (hst : r.decState = .bypass ∨ r.decState = .passthrough) :
    (r.step P cfg m d).decState = r.decState ∨ (r.step P cfg m d).decState = .idle := by
  cases hgap : isGapInterval P m d with
  | true => exact .inr (by rw [step_of_gap hgap]; rfl)
  | false => exact .inl (by rw [step_of_terminal hst hgap])

/-- R130: the test of the mode comes before every other. -/
theorem headerArm_wrongMode (hm : m ≠ requiredMode r.hdrCnt) :
    r.headerArm P cfg m d = { r with decState := .bypass } := by
  simp [DecoderRegs.headerArm, hm, DecoderRegs.abandon]

/-- R129: after the increment no arm moves the count. -/
theorem headerArm_hdrCnt (P : Params) (cfg : ConfigRegs) (m : Mode) (d : Duration)
    (r : DecoderRegs) : (r.headerArm P cfg m d).hdrCnt = r.hdrCnt := by
  rcases r.headerArm_cases P cfg m d with
    h | ⟨-, h, -⟩ | ⟨-, -, h⟩ | ⟨-, -, h⟩ | ⟨-, -, b, h⟩ <;>
    simp [h, DecoderRegs.conclude, DecoderRegs.shiftBit]

end Step

/-- Settles O15, by the cases of a decoder step. -/
theorem decStepCountsHeaderIntervals : Obligations.DecStepCountsHeaderIntervals := by
  unfold Obligations.DecStepCountsHeaderIntervals
  intro s m d
  refine ⟨s.dec.step s.params s.cfg m d, rfl, ?_⟩
  simp only [← isGapInterval_eq_false_iff]
  rcases s.dec.step_cases s.params s.cfg m d with
    ⟨hgap, h⟩ | ⟨-, hst, -, h⟩ | ⟨-, hst, -, h⟩ | ⟨hgap, hst, h⟩ | ⟨-, hst, h⟩ <;> rw [h]
  · simp [hgap, DecoderRegs.forceIdle]
  · simp [hst, DecoderRegs.enterHeader]
  · simp [hst]
  · simp [hgap, hst, headerArm_hdrCnt, DecoderRegs.count]
  · rcases hst with hst | hst <;> simp [hst]

/-- Settles O16. -/
theorem gapSpaceForcesIdle : Obligations.GapSpaceForcesIdle := by
  unfold Obligations.GapSpaceForcesIdle
  intro s d hlong
  have hgap : isGapInterval s.params .space d = true := by simp [isGapInterval, isGap, hlong]
  rw [exec_decStep, decoderStep, step_of_gap hgap]
  rfl

/-- Settles O17. -/
theorem terminalStatesIgnoreIntervals : Obligations.TerminalStatesIgnoreIntervals := by
  unfold Obligations.TerminalStatesIgnoreIntervals
  intro s m d hst hgap
  rw [exec_decStep, decoderStep, step_of_terminal hst (isGapInterval_eq_false_iff.2 hgap),
    State.withDec_self]

/-- Settles O19: the mode is tested at the position after the increment, which does not wrap. -/
theorem wrongModeAbandonsHeader : Obligations.WrongModeAbandonsHeader := by
  unfold Obligations.WrongModeAbandonsHeader
  intro s m d hst hcnt hgap hmode
  have hpos : s.dec.count.hdrCnt.toNat = s.dec.hdrCnt.toNat + 1 := by
    unfold DecoderRegs.count
    bv_omega
  have hm : m ≠ requiredMode s.dec.count.hdrCnt := ne_requiredMode_iff.2 (by rwa [hpos])
  rw [exec_decStep, decoderStep, step_of_header (isGapInterval_eq_false_iff.2 hgap) hst,
    headerArm_wrongMode hm]
  rfl

/-! ## When R72 selects each rule (30_encoding.md R72) -/

section Selection

variable {P : Params} {st : DecoderState} {pos : BitVec 8} {m : Mode} {d : Duration}

theorem ruleSelected_decGap_iff : ruleSelected P st pos (.decGap d) = true ↔ P.tGap < d.toNat := by
  simp [ruleSelected, Instr.wellFormed, isGap]

theorem ruleSelected_decIdleLead_iff :
    ruleSelected P st pos (.decIdleLead d) = true ↔ st = .idle ∧ inRange d P.tLead = true := by
  simp [ruleSelected, Instr.wellFormed, and_comm]

theorem ruleSelected_decHdrCount_iff :
    ruleSelected P st pos (.decHdrCount m d) = true ↔
      st = .header ∧ isGapInterval P m d = false := by
  simp [ruleSelected, Instr.wellFormed, and_comm]

theorem ruleSelected_decHdrParity_iff :
    ruleSelected P st pos (.decHdrParity m d) = true ↔
      st = .header ∧ isGapInterval P m d = false ∧ m ≠ requiredMode pos := by
  simp [ruleSelected, Instr.wellFormed, and_left_comm]

theorem ruleSelected_decHdrSync_iff :
    ruleSelected P st pos (.decHdrSync m d) = true ↔
      st = .header ∧ isGapInterval P m d = false ∧ m = requiredMode pos ∧
        isSyncPosition pos = true := by
  simp [ruleSelected, Instr.wellFormed, and_left_comm, and_assoc]

theorem ruleSelected_decHdrBitp_iff :
    ruleSelected P st pos (.decHdrBitp d) = true ↔
      st = .header ∧ requiredMode pos = .pulse ∧ isSyncPosition pos = false ∧
        (inRange d P.tBitp = true → ¬(isResyncPosition pos = true ∨ pos = hdrTotal)) := by
  simp [ruleSelected, Instr.wellFormed, and_assoc, imp_iff_not_or]

theorem ruleSelected_decHdrResync_iff :
    ruleSelected P st pos (.decHdrResync d) = true ↔
      st = .header ∧ inRange d P.tBitp = true ∧ isResyncPosition pos = true := by
  simp [ruleSelected, Instr.wellFormed, and_left_comm]

theorem ruleSelected_decHdrDone_iff :
    ruleSelected P st pos (.decHdrDone d) = true ↔
      st = .header ∧ inRange d P.tBitp = true ∧ pos = hdrTotal := by
  simp [ruleSelected, Instr.wellFormed, and_left_comm]

/-- R72: the SPACE of an address bit, whatever the bit. -/
def AtBitSpace (P : Params) (st : DecoderState) (pos : BitVec 8) (d : Duration) : Prop :=
  st = .header ∧ requiredMode pos = .space ∧ isSyncPosition pos = false ∧ isGap P d = false

theorem ruleSelected_decHdrBit0_iff :
    ruleSelected P st pos (.decHdrBit0 d) = true ↔
      AtBitSpace P st pos d ∧ inRange d P.tZero = true := by
  simp [ruleSelected, Instr.wellFormed, AtBitSpace, and_assoc, and_comm, and_left_comm]

theorem ruleSelected_decHdrBit1_iff :
    ruleSelected P st pos (.decHdrBit1 d) = true ↔
      AtBitSpace P st pos d ∧ inRange d P.tOne = true ∧ inRange d P.tZero = false := by
  simp [ruleSelected, Instr.wellFormed, AtBitSpace, and_assoc, and_comm, and_left_comm]

theorem ruleSelected_decHdrBadbit_iff :
    ruleSelected P st pos (.decHdrBadbit d) = true ↔
      AtBitSpace P st pos d ∧ inRange d P.tZero = false ∧ inRange d P.tOne = false := by
  simp [ruleSelected, Instr.wellFormed, AtBitSpace, and_assoc, and_comm, and_left_comm]

/-- R72: out of IDLE and HEADER only the pre-check and the state's own row apply. -/
theorem rule_of_terminal {i : Instr} (hst : st = .bypass ∨ st = .passthrough)
    (h : ruleSelected P st pos i = true) :
    (∃ d, i = .decGap d) ∨ ∃ m d, i = .decBypass m d ∨ i = .decPass m d := by
  cases i with
  | decGap d => exact .inl ⟨d, rfl⟩
  | decBypass m d => exact .inr ⟨m, d, .inl rfl⟩
  | decPass m d => exact .inr ⟨m, d, .inr rfl⟩
  | _ => rcases hst with rfl | rfl <;> simp [ruleSelected] at h

end Selection

/-! ## The rules one at a time (43_decoder.md R126 to R143) -/

/-- R128, R142, R143: a rule without an effect leaves the state, selected or not. -/
@[simp] theorem applyRule_id (i : Instr) (s : State) : applyRule i id s = s := by
  unfold applyRule
  split <;> rfl

/-- Settles O23. -/
theorem gapRuleForcesIdle : Obligations.GapRuleForcesIdle := by
  unfold Obligations.GapRuleForcesIdle
  intro s d hlong
  rw [exec_decGap, applyRule_of_selected _ (ruleSelected_decGap_iff.2 hlong)]
  rfl

/-- Settles O24. -/
theorem leadRuleEntersHeader : Obligations.LeadRuleEntersHeader := by
  unfold Obligations.LeadRuleEntersHeader
  intro s d hst hlow hhigh
  have hlead := inRange_iff.2 ⟨hlow, hhigh⟩
  rw [exec_decIdleLead, applyRule_of_selected _ (ruleSelected_decIdleLead_iff.2 ⟨hst, hlead⟩)]
  rfl

/-- Settles O25: the three rules have no effect to apply. -/
theorem skippingRulesWriteNothing : Obligations.SkippingRulesWriteNothing := by
  unfold Obligations.SkippingRulesWriteNothing
  intro s m d
  exact ⟨fun _ _ => congrArg _ (applyRule_id _ s), fun _ _ => congrArg _ (applyRule_id _ s),
    fun _ _ => congrArg _ (applyRule_id _ s)⟩

/-- Settles O26. -/
theorem countRuleIncrements : Obligations.CountRuleIncrements := by
  unfold Obligations.CountRuleIncrements
  intro s m d hst hgap
  have hsel := ruleSelected_decHdrCount_iff (pos := s.dec.hdrCnt).2
    ⟨hst, isGapInterval_eq_false_iff.2 hgap⟩
  refine ⟨s.dec.hdrCnt + 1, by simp, ?_⟩
  rw [exec_decHdrCount, applyRule_of_selected _ hsel]
  rfl

/-- Settles O27. -/
theorem parityRuleAbandons : Obligations.ParityRuleAbandons := by
  unfold Obligations.ParityRuleAbandons
  intro s m d hst hgap hmode
  have hsel := ruleSelected_decHdrParity_iff.2
    ⟨hst, isGapInterval_eq_false_iff.2 hgap, ne_requiredMode_iff.2 hmode⟩
  rw [exec_decHdrParity, applyRule_of_selected _ hsel]
  rfl

/-- Settles O28, by the window. -/
theorem syncRuleChecksSecondStage : Obligations.SyncRuleChecksSecondStage := by
  unfold Obligations.SyncRuleChecksSecondStage
  intro s m d hst hfirst hlast hmode hgap
  have hsel := ruleSelected_decHdrSync_iff.2 ⟨hst, isGapInterval_eq_false_iff.2 hgap,
    eq_requiredMode_iff.2 hmode, isSyncPosition_iff.2 ⟨hfirst, hlast⟩⟩
  simp only [← inRange_iff]
  rw [exec_decHdrSync, applyRule_of_selected _ hsel]
  split <;> rfl

/-- Settles O29: out of the window the rule is selected at every such position, in it where the pulse
neither restarts the accumulator nor ends the header. -/
theorem bitPulseRuleChecksWidth : Obligations.BitPulseRuleChecksWidth := by
  unfold Obligations.BitPulseRuleChecksWidth
  intro s d hst heven hfirst _
  have hm : requiredMode s.dec.hdrCnt = .pulse := (eq_requiredMode_iff.2 (by simpa using heven)).symm
  have hs : isSyncPosition s.dec.hdrCnt = false := by
    rw [← Bool.not_eq_true, isSyncPosition_iff]
    omega
  constructor
  · intro hout
    rw [← inRange_iff] at hout
    have hsel := ruleSelected_decHdrBitp_iff.2 ⟨hst, hm, hs, fun hin => absurd hin hout⟩
    rw [exec_decHdrBitp, applyRule_of_selected _ hsel, if_neg hout]
    rfl
  · intro hlow hhigh hother
    have hnone : ¬(isResyncPosition s.dec.hdrCnt = true ∨ s.dec.hdrCnt = hdrTotal) := by
      rw [isResyncPosition_iff, eq_hdrTotal_iff]
      simpa [or_assoc] using hother
    have hin : inRange d s.params.tBitp = true := inRange_iff.2 ⟨hlow, hhigh⟩
    have hsel := (ruleSelected_decHdrBitp_iff (P := s.params) (d := d)).2
      ⟨hst, hm, hs, fun _ => hnone⟩
    rw [exec_decHdrBitp, applyRule_of_selected _ hsel, if_pos hin, State.withDec_self]

/-- Settles O30. -/
theorem resyncRuleClearsAddress : Obligations.ResyncRuleClearsAddress := by
  unfold Obligations.ResyncRuleClearsAddress
  intro s d hst hpos hlow hhigh
  have hsel := ruleSelected_decHdrResync_iff.2
    ⟨hst, inRange_iff.2 ⟨hlow, hhigh⟩, isResyncPosition_iff.2 hpos⟩
  rw [exec_decHdrResync, applyRule_of_selected _ hsel]
  rfl

/-- Settles O32. -/
theorem doneRuleTakesVerdict : Obligations.DoneRuleTakesVerdict := by
  unfold Obligations.DoneRuleTakesVerdict
  intro s d hst hpos hlow hhigh
  have hsel := ruleSelected_decHdrDone_iff.2
    ⟨hst, inRange_iff.2 ⟨hlow, hhigh⟩, eq_hdrTotal_iff.2 hpos⟩
  rw [exec_decHdrDone, applyRule_of_selected _ hsel]
  rfl

/-- R136, R137: shifting a bit in doubles the accumulator and adds the bit, modulo its width. -/
theorem toNat_shiftIn (a : BitVec 16) (b : Bool) :
    (shiftIn a b).toNat = (a.toNat * 2 + b.toNat) % 2 ^ 16 := by
  have hconcat : shiftIn a b = a.shiftConcat b := BitVec.eq_of_getLsbD_eq fun i hi => by
    rw [getLsbD_shiftIn a b hi, BitVec.getLsbD_shiftConcat]
    cases i <;> simp_all
  rw [hconcat, BitVec.toNat_shiftConcat, Nat.shiftLeft_eq]

/-- Settles O31, clause by clause: each needs its own window, and all three the position. -/
theorem bitRulesShiftOrAbandon : Obligations.BitRulesShiftOrAbandon := by
  unfold Obligations.BitRulesShiftOrAbandon
  intro s d zero one hst hodd hfirst _ hshort hzero hone
  rw [← inRange_iff] at hzero hone
  have hat : AtBitSpace s.params s.dec.decState s.dec.hdrCnt d := by
    refine ⟨hst, (eq_requiredMode_iff.2 (by simp [hodd])).symm, ?_, by simpa [isGap] using hshort⟩
    rw [← Bool.not_eq_true, isSyncPosition_iff]
    omega
  rw [hzero, hone]
  simp only [Bool.not_eq_true]
  refine ⟨fun h0 => ?_, fun h1 h0 => ?_, fun h0 h1 => ?_⟩
  · refine ⟨shiftIn s.dec.addrAcc false, toNat_shiftIn _ _, ?_⟩
    rw [exec_decHdrBit0, applyRule_of_selected _ (ruleSelected_decHdrBit0_iff.2 ⟨hat, h0⟩)]
    rfl
  · refine ⟨shiftIn s.dec.addrAcc true, toNat_shiftIn _ _, ?_⟩
    rw [exec_decHdrBit1, applyRule_of_selected _ (ruleSelected_decHdrBit1_iff.2 ⟨hat, h1, h0⟩)]
    rfl
  · rw [exec_decHdrBadbit, applyRule_of_selected _ (ruleSelected_decHdrBadbit_iff.2 ⟨hat, h0, h1⟩)]
    rfl

/-! ## Leaving BYPASS and PASSTHROUGH (43_decoder.md R126 (d)) -/

section Terminal

variable {s t : State}

/-- A decoder rule leaves a terminal state by the pre-check alone. -/
theorem exec_rule_of_terminal {i : Instr} (hi : (ruleInterval i).isSome = true)
    (hst : s.dec.decState = .bypass ∨ s.dec.decState = .passthrough) (h : exec i s = .next t) :
    t.dec.decState = s.dec.decState ∨ t.dec.decState = .idle := by
  cases hsel : ruleSelected s.params s.dec.decState s.dec.hdrCnt i with
  | false =>
    obtain rfl := Host.Outcome.next.inj ((unselectedRulesAreNotApplied s i hi hsel).symm.trans h)
    exact .inl rfl
  | true =>
    rcases rule_of_terminal hst hsel with ⟨d, rfl⟩ | ⟨m, d, rfl | rfl⟩
    · rw [exec_decGap, applyRule_of_selected _ hsel] at h
      obtain rfl := Host.Outcome.next.inj h
      exact .inr rfl
    · obtain rfl : s = t := by simpa using h
      exact .inl rfl
    · obtain rfl : s = t := by simpa using h
      exact .inl rfl

/-- R117: a poll touches the decoder by one step at most. -/
theorem poll_decState_of_terminal
    (hst : s.dec.decState = .bypass ∨ s.dec.decState = .passthrough) :
    (poll s).dec.decState = s.dec.decState ∨ (poll s).dec.decState = .idle := by
  rcases poll_cases s with ⟨-, hpoll⟩ | ⟨-, hpoll⟩ <;> rw [hpoll]
  · exact .inl rfl
  · exact step_decState_of_terminal s.params s.cfg _ _ hst

end Terminal

/-- Settles O18, over the operations that own the decoder (R41): a reset ends in IDLE, and of the others
only a gap leaves a terminal state. -/
theorem terminalStatesLeftOnlyToIdle : Obligations.TerminalStatesLeftOnlyToIdle := by
  unfold Obligations.TerminalStatesLeftOnlyToIdle
  intro i s t h hst
  rcases onlyOwnersWrite i s t h with ⟨lvl, mask, id, rfl⟩ | ⟨-, -, -, -, -, -, howner, -⟩
  · obtain rfl := resetRegisters_of_exec_next h
    exact .inr rfl
  by_cases hsame : t.dec = s.dec
  · exact .inl (by rw [hsame])
  rcases howner hsame with rfl | ⟨lvl, rfl⟩ | ⟨m, d, rfl⟩ | hrule
  · obtain rfl := Host.Outcome.next.inj h
    exact poll_decState_of_terminal hst
  · obtain rfl := Host.Outcome.next.inj h
    simpa [cycle] using
      poll_decState_of_terminal (s := serviceInterrupts lvl (s.withClk s.clk.tick)) (by simpa using hst)
  · obtain rfl := Host.Outcome.next.inj h
    exact step_decState_of_terminal s.params s.cfg m d hst
  · exact exec_rule_of_terminal hrule hst h

end Sys2Proof.Proofs

namespace Sys2Proof.Proofs

open Sys2Proof.Machine

/-! ## The Output Driver (44_output.md R160 to R163) -/

section Driver

variable {st : DecoderState} {id : BitVec 8} {s : State}

/-- R160: the forwarding flag, by the two raw ids and the rest. -/
theorem fwd_eq_true_iff :
    fwd st id = true ↔ id = 255 ∨ (id = 254 ∧ (st = .idle ∨ st = .header)) ∨
      (id ≠ 254 ∧ id ≠ 255 ∧ st = .passthrough) := by
  unfold fwd
  split
  next h255 => simp [h255]
  next h255 =>
    split
    next h254 => simp [h254]
    next h254 => rw [decide_eq_true_eq]; tauto

/-- R161: the driven level is low for an authorized pulse alone. -/
theorem outputLevel_eq_ite (authorized : Bool) (m : Mode) :
    outputLevel authorized m = if authorized = true ∧ m = .pulse then false else true := by
  cases authorized <;> cases m <;> rfl

/-- R162: the pin is at its combinational value just when `OUT.DRIVE` has nothing to change. -/
theorem outputFollows_iff : OutputFollows s ↔ driveOutput s = s := by
  constructor
  · intro h
    exact (congrArg s.withOutN h.symm).trans s.withOutN_self
  · intro h
    exact (congrArg State.outN h).symm

/-- R161: `OUT.DRIVE` sets the pin to its combinational value, whatever it held. -/
theorem outputFollows_driveOutput (s : State) : OutputFollows (driveOutput s) := rfl

/-- R117, R162: a poll that changes what the pin depends on drives the pin. -/
theorem outputFollows_poll (h : OutputFollows s) : OutputFollows (poll s) := by
  rcases poll_cases s with ⟨-, hpoll⟩ | ⟨-, hpoll⟩ <;> rw [hpoll]
  · exact h
  · exact outputFollows_driveOutput _

/-- R58, R162: before its poll a cycle touches neither the pin nor what the pin depends on. -/
theorem outputFollows_cycle (lvl : Level) (h : OutputFollows s) : OutputFollows (cycle lvl s) := by
  refine outputFollows_poll ?_
  simpa [OutputFollows] using h

end Driver

/-- Settles O38: the cycle keeps R162, and R162 is that `OUT.DRIVE` changes nothing. -/
theorem outputStaysCombinational : Obligations.OutputStaysCombinational := by
  unfold Obligations.OutputStaysCombinational
  intro s t lvl _ hout hrun
  obtain rfl := Host.Outcome.next.inj hrun
  have hafter := outputFollows_cycle lvl hout
  exact ⟨hafter, congrArg _ (outputFollows_iff.1 hafter)⟩

/-- Settles O39: id 255 is always authorized, so the pin follows the mode alone, and at a cycle boundary
the mode is the activity's (R38 (f)). -/
theorem rawIdMirrorsActivity : Obligations.RawIdMirrorsActivity := by
  unfold Obligations.RawIdMirrorsActivity
  intro s t lvl hinv hout hid hrun
  obtain rfl := Host.Outcome.next.inj hrun
  have hauthorized : fwd (cycle lvl s).dec.decState (cycle lvl s).cfg.cfgId = true :=
    fwd_eq_true_iff.2 (.inl ((congrArg _ (cycle_cfg lvl s)).trans hid))
  have hmode : (cycle lvl s).smp.curMode = .pulse ↔ (cycle lvl s).deb.act = .active := by
    rw [(cycleInv_cycle lvl hinv).modes, modeOf_eq_iff]
    simp
  have hafter : OutputFollows (cycle lvl s) := outputFollows_cycle lvl hout
  simpa only [OutputFollows, hauthorized, hmode, Bool.true_and] using hafter

/-- Settles O36: the flag returned is `fwd`. -/
theorem authReturnsForwardingFlag : Obligations.AuthReturnsForwardingFlag := by
  unfold Obligations.AuthReturnsForwardingFlag
  intro s
  exact ⟨s.authorized, fwd_eq_true_iff, exec_outAuth s⟩

/-- Settles O37, by the two levels the pin can be driven to. -/
theorem driveForwardsAuthorizedPulse : Obligations.DriveForwardsAuthorizedPulse := by
  unfold Obligations.DriveForwardsAuthorizedPulse
  intro s
  rw [exec_outDrive, driveOutput, State.authorized, outputLevel_eq_ite]
  refine ⟨fun hpulse => ?_, fun hnot => ?_⟩
  · rw [if_pos hpulse]
    rfl
  · rw [if_neg hnot]
    rfl

end Sys2Proof.Proofs

namespace Sys2Proof.Proofs

open Sys2Proof.Machine

/-! ## A cycle as operations applied one after the other (45_top_level.md R170, R171)

The operation set has a word for each handler, so the turn of a source (R188) is an operation that runs
or does not. -/

/-- R183, "handler": the operation that is the handler of a source, with the pin at `lvl`. -/
def handlerOf : IrqSource → Level → Instr
  | .pinChange, lvl => .debEdge lvl
  | .settleCompare, _ => .debSettle
  | .confirmCompare, lvl => .debConfirm lvl
  | .overflow, _ => .clkOvf

/-- R102, R183: what is cleared before the handler runs. The edge detector records the level itself; the
other sources are cleared by their handlers. -/
def beforeHandler (src : IrqSource) (lvl : Level) (s : State) : State :=
  match src with
  | .pinChange => { s with deb := { s.deb with pinPrev := lvl } }
  | .settleCompare | .confirmCompare | .overflow => s

section Turns

variable (lvl : Level) {s : State}

/-- R189: taking a source that is raised and not masked is running its handler. -/
theorem exec_handlerOf {src : IrqSource} (hie : s.ie = true) (hraised : raised src lvl s = true) :
    exec (handlerOf src lvl) (beforeHandler src lvl s) = .next (takeInterrupt src lvl s) := by
  cases src with
  | pinChange => exact congrArg _ (applyHandler_enabled (s := beforeHandler .pinChange lvl s) _ hie)
  | settleCompare | confirmCompare => exact congrArg _ (applyHandler_enabled _ hie)
  | overflow =>
    have happlied : (s.ie && s.clk.ovfFlag) = true := Bool.and_eq_true_iff.2 ⟨hie, hraised⟩
    exact congrArg _ (if_pos happlied)

/-- R188: with `ie = 1` the turn of a source runs its handler if it is raised, and else does nothing. -/
theorem serviceSource_runs_handler {src : IrqSource} {c : Prop} [Decidable c] (hie : s.ie = true)
    (hc : raised src lvl s = true ↔ c) :
    if c then exec (handlerOf src lvl) (beforeHandler src lvl s) = .next (serviceSource lvl s src)
    else serviceSource lvl s src = s := by
  rcases serviceSource_cases lvl s src with ⟨-, hraised, hturn⟩ | ⟨hmasked, hturn⟩
  · rw [if_pos (hc.1 hraised), hturn]
    exact exec_handlerOf lvl hie hraised
  · have hquiet : ¬ c := fun h => by simp [hie, hc.2 h] at hmasked
    rw [if_neg hquiet]
    exact hturn

/-- R32, R189: no turn touches `ie`. -/
theorem serviceSource_ie (src : IrqSource) (hie : s.ie = true) :
    (serviceSource lvl s src).ie = true := by
  rw [serviceSource_frame]
  exact hie

/-- R102: the edge detector compares the level with the one it saw last. -/
theorem raised_pinChange_iff : raised .pinChange lvl s = true ↔ lvl ≠ s.deb.pinPrev :=
  decide_eq_true_iff

/-- R106: the test of the settle deadline, read off the registers. -/
theorem raised_settleCompare_iff : raised .settleCompare lvl s = true ↔
    s.deb.settle.armed = true ∧ s.deb.settle.due = s.now := by
  simp [raised, Deadline.firesAt]

/-- R106: the test of the confirm deadline, read off the registers. -/
theorem raised_confirmCompare_iff : raised .confirmCompare lvl s = true ↔
    s.deb.confirm.armed = true ∧ s.deb.confirm.due = s.now := by
  simp [raised, Deadline.firesAt]

/-- R183: the overflow source is its pending bit. -/
theorem raised_overflow_iff : raised .overflow lvl s = true ↔ s.clk.ovfFlag = true := Iff.rfl

end Turns

/-- Settles O47: steps 2 to 5 are the turns of the four sources, each on the state the turn before it
left, between the tick and the poll. -/
theorem cycleIsItsSixSteps : Obligations.CycleIsItsSixSteps := by
  unfold Obligations.CycleIsItsSixSteps
  intro s lvl hie
  have hie1 : (s.withClk s.clk.tick).ie = true := hie
  have hie2 := serviceSource_ie lvl .pinChange hie1
  have hie3 := serviceSource_ie lvl .settleCompare hie2
  have hie4 := serviceSource_ie lvl .confirmCompare hie3
  exact ⟨_, _, _, _, _, _, exec_clkTick s,
    serviceSource_runs_handler lvl hie1 (raised_pinChange_iff lvl),
    serviceSource_runs_handler lvl hie2 (raised_settleCompare_iff lvl),
    serviceSource_runs_handler lvl hie3 (raised_confirmCompare_iff lvl),
    serviceSource_runs_handler lvl hie4 (raised_overflow_iff lvl),
    exec_smpPoll _, exec_topCycle s lvl⟩

/-! ## The operation a step runs (30_encoding.md R70, R72; log 1) -/

section Step

variable {s : State}

/-- Log 1: with nothing queued a step is one clock edge. -/
theorem step_of_emptyQueue (hlegal : paramsLegal s.params = true) (hstim : s.stim = []) :
    step s = exec (clockEdge s) (present (clockEdge s) s) := by
  rw [← execAll_singleton]
  simp [step, stepOnce, hlegal, hstim]

/-- R52, R212: a queued word is taken from the queue and its operations run in order, a cycle under
`rst = 1` being a reset. -/
theorem step_of_word {w : Stim} {rest : List Stim} {is : List Instr}
    (hlegal : paramsLegal s.params = true) (hstim : s.stim = w :: rest)
    (hdec : decode s.params s.decoderContext w = .ok is) :
    step s = execAll (is.map (underReset s.ports)) (s.withStim rest) := by
  simp [step, stepOnce, hlegal, hstim, hdec]

/-- A word of one operation, which runs as `j` at the level of `rst`. -/
theorem step_of_operation {w : Stim} {rest : List Stim} {i j : Instr}
    (hlegal : paramsLegal s.params = true) (hstim : s.stim = w :: rest)
    (hdec : decode s.params s.decoderContext w = .ok [i]) (hrun : underReset s.ports i = j) :
    step s = exec j (present j (s.withStim rest)) := by
  rw [step_of_word hlegal hstim hdec, List.map_singleton, hrun, execAll_singleton]

/-- R72, R125: an Interval word is one decoder step, whatever `rst` is. -/
theorem step_of_interval {m : Mode} {d : Duration} {rest : List Stim}
    (hlegal : paramsLegal s.params = true) (hstim : s.stim = encodeInterval m d :: rest) :
    step s = exec (.decStep m d) (s.withStim rest) := by
  rw [step_of_word hlegal hstim (decode_encodeInterval _ _ m d), map_underReset_selectRules]
  exact execAll_selectRules (s.withStim rest) m d

end Step

/-- Settles O53, clause by clause: what remains of each is which operation runs at the level of `rst`. -/
theorem stepRunsDecodedOperation : Obligations.StepRunsDecodedOperation := by
  unfold Obligations.StepRunsDecodedOperation
  intro s hlegal
  refine ⟨?_, ?_, ?_, ?_, ?_⟩
  · intro w rest i hstim hdec _ hrst
    have hrun : underReset s.ports i = i :=
      hrst.elim (underReset_of_low · i) (underReset_of_not_topCycle s.ports)
    exact step_of_operation hlegal hstim hdec hrun
  · intro w rest lvl hstim hdec hrst
    exact step_of_operation hlegal hstim hdec (underReset_topCycle_of_high hrst lvl)
  · intro m d rest hstim
    exact step_of_interval hlegal hstim
  · intro hstim hrst
    have hedge : clockEdge s = .topCycle s.ports.rfIn := underReset_of_low hrst _
    rw [step_of_emptyQueue hlegal hstim, hedge]
    rfl
  · intro hstim hrst
    have hedge : clockEdge s = .sysReset s.ports.rfIn s.ports.cfgMaskIn s.ports.cfgIdIn :=
      underReset_topCycle_of_high hrst _
    rw [step_of_emptyQueue hlegal hstim, hedge]
    rfl

end Sys2Proof.Proofs

namespace Sys2Proof.Proofs

open Sys2Proof.Machine

/-! ## Masked interrupts (60_exceptions.md R188, R191; log 6) -/

/-- R191: with `ie = 0` a debouncer handler is not applied. -/
theorem applyHandler_masked (body : DebouncerRegs → DebouncerRegs) {s : State} (hie : s.ie = false) :
    applyHandler body s = s := by
  simp [applyHandler, hie]

/-- Settles O9: the three debouncer handlers share one guard, and `CLK.OVF` tests `ie` itself. -/
theorem maskedHandlersAreNotApplied : Obligations.MaskedHandlersAreNotApplied := by
  unfold Obligations.MaskedHandlersAreNotApplied
  intro s i lvl hie hi
  simp only [List.mem_cons, List.not_mem_nil, or_false] at hi
  rcases hi with rfl | rfl | rfl | rfl
  · rw [exec_debEdge, applyHandler_masked _ hie]
  · rw [exec_debSettle, applyHandler_masked _ hie]
  · rw [exec_debConfirm, applyHandler_masked _ hie]
  · simp [hie]

/-- Log 6: steps 2 to 5 of a masked cycle do nothing. -/
theorem cycle_masked (lvl : Level) {s : State} (hie : s.ie = false) :
    cycle lvl s = poll (s.withClk s.clk.tick) :=
  congrArg poll (serviceInterrupts_masked lvl (s.withClk s.clk.tick) hie)

/-- Settles O48: the tick, then the poll, and nothing between them. -/
theorem maskedCycleTicksAndPolls : Obligations.MaskedCycleTicksAndPolls := by
  unfold Obligations.MaskedCycleTicksAndPolls
  intro s lvl hie
  refine ⟨_, _, exec_clkTick s, exec_smpPoll _, ?_⟩
  rw [exec_topCycle, cycle_masked lvl hie]

/-! ## Loading the configuration (60_exceptions.md R195, 30_encoding.md R73 (a); log 5) -/

section Loading

variable {s : State} {id : BitVec 8}

/-- R195, R73 (a), log 5: a device id is refused if the parameters say `.refuse` and it is reserved. -/
theorem refusesId_iff {P : Params} : refusesId P id = true ↔
    P.reservedIds = .refuse ∧ 16 ≤ id.toNat ∧ id.toNat ≤ 253 := by
  simp [refusesId, isReservedId]

/-- R195: a device id with a meaning is accepted whatever the parameters. -/
theorem refusesId_of_not_reserved (P : Params) (hid : ¬(16 ≤ id.toNat ∧ id.toNat ≤ 253)) :
    refusesId P id = false :=
  Bool.eq_false_iff.2 fun h => hid (refusesId_iff.1 h).2

/-- R73 (a): under `.load` every device id is accepted. -/
theorem refusesId_of_load {P : Params} (hload : P.reservedIds = .load) (id : BitVec 8) :
    refusesId P id = false := by
  simp [refusesId, hload]

/-- R195: an accepted load latches the operand. -/
theorem exec_sysCfgload_of_accepted (mask : BitVec 7) (h : refusesId s.params id = false) :
    exec (.sysCfgload mask id) s = .next (s.withCfg (latchConfig mask id)) := by
  simp [h]

/-- R210: an accepted reset writes every register. -/
theorem exec_sysReset_of_accepted (lvl : Level) (mask : BitVec 7)
    (h : refusesId s.params id = false) :
    exec (.sysReset lvl mask id) s = .next (resetRegisters lvl mask id s) := by
  simp [h]

end Loading

/-- Settles O42: an id that is not reserved is accepted. -/
theorem cfgLoadLatchesConfiguration : Obligations.CfgLoadLatchesConfiguration := by
  unfold Obligations.CfgLoadLatchesConfiguration
  intro s mask id hid
  exact exec_sysCfgload_of_accepted mask (refusesId_of_not_reserved s.params hid)

/-- Settles O43, by the two treatments: under `.refuse` the guard of both operations fires, under
`.load` it fires for no id, and resets differ by the id in what they latch alone. -/
theorem reservedIdRefusedOrLoaded : Obligations.ReservedIdRefusedOrLoaded := by
  unfold Obligations.ReservedIdRefusedOrLoaded
  intro s lvl mask id hlow hhigh
  refine ⟨fun hrefuse => ?_, fun hload => ?_⟩
  · have hrefused := refusesId_iff.2 ⟨hrefuse, hlow, hhigh⟩
    simp [hrefused]
  · have haccepted := refusesId_of_load hload
    exact ⟨exec_sysCfgload_of_accepted mask (haccepted id), resetRegisters lvl mask 0 s,
      exec_sysReset_of_accepted lvl mask (haccepted 0),
      exec_sysReset_of_accepted lvl mask (haccepted id)⟩

/-! ## The critical section and the diagnostic path (60_exceptions.md R194, R199) -/

/-- Settles O44: the two operations of R194 are what the statement writes out. -/
theorem criticalSectionRestoresEnable : Obligations.CriticalSectionRestoresEnable := by
  unfold Obligations.CriticalSectionRestoresEnable
  exact fun s saved => ⟨exec_sysCli s, exec_sysRestore s saved⟩

/-- Settles O45: the operation has no other answer. -/
theorem diagnosticPathIsRefused : Obligations.DiagnosticPathIsRefused := by
  unfold Obligations.DiagnosticPathIsRefused
  exact exec_sysDiag

end Sys2Proof.Proofs

namespace Sys2Proof.Proofs

open Sys2Proof.Machine

/-! ## Reset (70_reset_and_hazards.md R210, 10_state.md R37; log 3) -/

/-- Settles O41: an id that is not reserved passes the guard that `SYS.RESET` takes from the
configuration load (R195), and what the accepted reset writes is R37's table. -/
theorem resetEstablishesTable : Obligations.ResetEstablishesTable := by
  unfold Obligations.ResetEstablishesTable
  intro s lvl mask id hid
  have haccepted : refusesId s.params id = false := refusesId_of_not_reserved s.params hid
  rw [exec_sysReset_of_accepted lvl mask haccepted, resetRegisters, latchConfig]

end Sys2Proof.Proofs
